-- ==== Sys2Proof/Word.lean ====
section
/-! DEFINITION. The word types of the controller's frames and bodies, and a fixed-size bank of like things.

A bank is the model's container for "a fixed number of like things" (eight spots, three compressors, 160 lines). It is a
list that carries its own length, so that it is plain data, evaluates in Lean's kernel, and reads and writes at an index
are total. -/

namespace Sys2Proof

/-- One byte of a frame or body (R188). -/
abbrev Byte := BitVec 8

/-- One 16-bit word of a frame check, a latch word or a mask word. -/
abbrev Word := BitVec 16

/-- A fixed number `n` of like things. -/
structure Bank (n : Nat) (α : Type) where
  cells : List α
  size_eq : cells.length = n
  deriving DecidableEq, Repr

namespace Bank

variable {n : Nat} {α β : Type}

/-- A bank of `n` copies of one thing. -/
def fill (n : Nat) (a : α) : Bank n α := ⟨List.replicate n a, List.length_replicate⟩

/-- The thing at an index. -/
def get (b : Bank n α) (i : Fin n) : α := b.cells[i.val]'(by rw [b.size_eq]; exact i.isLt)

/-- The bank with the thing at one index replaced. -/
def set (b : Bank n α) (i : Fin n) (a : α) : Bank n α :=
  ⟨b.cells.set i.val a, by rw [List.length_set]; exact b.size_eq⟩

/-- The bank with the thing at one index changed by a function. -/
def modify (b : Bank n α) (i : Fin n) (f : α → α) : Bank n α := b.set i (f (b.get i))

/-- The bank with every thing changed by one function. -/
def map (b : Bank n α) (f : α → β) : Bank n β := ⟨b.cells.map f, by rw [List.length_map]; exact b.size_eq⟩

/-- The bank whose thing at each index is given by a function of the index. -/
def ofFn (f : Fin n → α) : Bank n α := ⟨List.ofFn f, List.length_ofFn⟩

/-- Does any thing of the bank satisfy a test? -/
def any (b : Bank n α) (p : α → Bool) : Bool := b.cells.any p

end Bank

end Sys2Proof
end

