-- ==== Sys2Proof/Syntax.lean ====
section
/-! DEFINITION. The names of field items and the commands of the controller: one constructor of `Instr` for each row of the
opcode table.

A command is one step of the table: a request frame that a link partner has sent whole and valid (the first 38
constructors), an event of a link receiver, an event of the supply, of a field input or of a meter, or the expiry of one
timer. A request carries the link it arrived on, its tag and its body as the raw bytes of R188, so that every malformed
body can be written down and is judged by R178. -/

namespace Sys2Proof

/-- A car position S1 to S8; S1 is 0. -/
abbrev SpotId := Fin 8
/-- A receiving vessel V1 to V4; V1 is 0. -/
abbrev VesselId := Fin 4
/-- A compressor C1 to C3; C1 is 0. -/
abbrev CompId := Fin 3
/-- A product table entry P1 to P8; P1 is 0. -/
abbrev ProductId := Fin 8
/-- A discrete line DI001 to DI160; DI001 is 0. -/
abbrev LineId := Fin 160
/-- An analog channel AI01 to AI20; AI01 is 0. -/
abbrev ChannelId := Fin 20

/-- The two links, which are also the two seats: SUPERVISORY is the host's, LOCAL the panel's (R24, R174). -/
inductive Link where
  | supervisory
  | panel
  deriving DecidableEq, Repr

/-- The five valves of a spot (scope file, "Field items"). -/
inductive Valve where
  | la
  | va
  | vh
  | dr
  | lh
  deriving DecidableEq, Repr

/-- The two pulse trains of a spot meter (R28). -/
inductive PulseChannel where
  | a
  | b
  deriving DecidableEq, Repr

/-- The two levels of a discrete line (section 7.1). -/
inductive Level where
  | low
  | high
  deriving DecidableEq, Repr

/-- The functions a bypass may force (section 7.6). -/
inductive BypassFn where
  | earth
  | armLiq
  | armVap
  | chock
  | vapourInLine
  deriving DecidableEq, Repr

/-- The commands. Each constructor is one row of spec/opcode_table.json. -/
inductive Instr where
  -- requests of class READ
  | readStatus (l : Link) (tag : Byte) (body : List Byte)
  | readSpot (l : Link) (tag : Byte) (body : List Byte)
  | readVessel (l : Link) (tag : Byte) (body : List Byte)
  | readCompressor (l : Link) (tag : Byte) (body : List Byte)
  | readInputs (l : Link) (tag : Byte) (body : List Byte)
  | readTicket (l : Link) (tag : Byte) (body : List Byte)
  | readSnapshot (l : Link) (tag : Byte) (body : List Byte)
  | readConfig (l : Link) (tag : Byte) (body : List Byte)
  -- requests of class OPERATE
  | carOrder (l : Link) (tag : Byte) (body : List Byte)
  | listClear (l : Link) (tag : Byte) (body : List Byte)
  | start (l : Link) (tag : Byte) (body : List Byte)
  | stop (l : Link) (tag : Byte) (body : List Byte)
  | abort (l : Link) (tag : Byte) (body : List Byte)
  | hold (l : Link) (tag : Byte) (body : List Byte)
  | resume (l : Link) (tag : Byte) (body : List Byte)
  | spotReset (l : Link) (tag : Byte) (body : List Byte)
  | spotTripReset (l : Link) (tag : Byte) (body : List Byte)
  | valveCommand (l : Link) (tag : Byte) (body : List Byte)
  | seatTake (l : Link) (tag : Byte) (body : List Byte)
  | seatYield (l : Link) (tag : Byte) (body : List Byte)
  | compressorReset (l : Link) (tag : Byte) (body : List Byte)
  | tankUllage (l : Link) (tag : Byte) (body : List Byte)
  | releaseTicket (l : Link) (tag : Byte) (body : List Byte)
  | clearLatches (l : Link) (tag : Byte) (body : List Byte)
  | setMask (l : Link) (tag : Byte) (body : List Byte)
  | siteTrip (l : Link) (tag : Byte) (body : List Byte)
  -- requests of class SUPERVISE
  | configure (l : Link) (tag : Byte) (body : List Byte)
  | listLoad (l : Link) (tag : Byte) (body : List Byte)
  | bypassSet (l : Link) (tag : Byte) (body : List Byte)
  | bypassEnd (l : Link) (tag : Byte) (body : List Byte)
  | compressorService (l : Link) (tag : Byte) (body : List Byte)
  | siteTripReset (l : Link) (tag : Byte) (body : List Byte)
  | setClock (l : Link) (tag : Byte) (body : List Byte)
  | lockMetrology (l : Link) (tag : Byte) (body : List Byte)
  | restart (l : Link) (tag : Byte) (body : List Byte)
  -- requests of no class
  | authenticate (l : Link) (tag : Byte) (body : List Byte)
  | deauthenticate (l : Link) (tag : Byte) (body : List Byte)
  -- a valid frame whose kind code is not in the catalogue
  | uncataloguedRequest (l : Link) (tag : Byte) (kind : Byte) (body : List Byte)
  -- events of a link receiver and its exchange
  | frameRejected (l : Link) (bytes : List Byte)
  | linkOverrun (l : Link)
  | frameSilenceTimeout (l : Link)
  | discardSilenceEnd (l : Link)
  | replySent (l : Link)
  -- the supply
  | powerUp
  | supplyLoss
  -- field inputs
  | rawLevelChange (line : LineId) (level : Level)
  | filterAccept (line : LineId)
  | analogConversion (ch : ChannelId) (microamps : Nat)
  -- the spot meters
  | pulseEdge (sp : SpotId) (ch : PulseChannel)
  | windowClose (sp : SpotId)
  -- timers
  | provingExpiry (sp : SpotId)
  | tempHoldExpiry (sp : SpotId)
  | ullageAgeExpiry (v : VesselId)
  | ullageWaitExpiry (sp : SpotId)
  | changeoverExpiry (c : CompId)
  | runUpExpiry (c : CompId)
  | runDownExpiry (c : CompId)
  | halfDwell (sp : SpotId)
  | dwellExpiry (sp : SpotId)
  | pressuriseExpiry (sp : SpotId)
  | stallExpiry (sp : SpotId)
  | settleTimerExpiry (sp : SpotId)
  | settleLimitExpiry (sp : SpotId)
  | recoveryProvingExpiry (sp : SpotId)
  | recoveryLimitExpiry (sp : SpotId)
  | strokeTimeout (sp : SpotId) (v : Valve)
  | disagreementExpiry (sp : SpotId) (v : Valve)
  | bypassExpiry (sp : SpotId) (f : BypassFn)
  | clockTick
  -- a marker byte in HUNT
  | markerReceived (l : Link)
  deriving DecidableEq, Repr

end Sys2Proof
end

