-- ==== Sys2Proof/Config.lean ====
section
/-! DEFINITION. What one controller fixes: the constants of the rules, and the values the spec leaves open.

A free value is an `opaque` constant without a body: nothing in Lean can evaluate it or prove a value of it. -/

namespace Sys2Proof.Config

/-- The length of a metering window, 500 ms (R29). -/
def windowMs : Nat := 500
/-- The temperature hold of a spot's channel in fault, 60 s (R44). -/
def tempHoldMs : Nat := 60000
/-- The settle limit, 60 s (R105). -/
def settleLimitMs : Nat := 60000
/-- The most tickets the queue holds (R166). -/
def ticketCapacity : Nat := 32
/-- The last ticket number before the counter goes back to 1 (R165). -/
def ticketNumberMax : Nat := 999999
/-- The most bypass records (section 7.6). -/
def bypassCapacity : Nat := 2
/-- The totaliser counts modulo this many kilograms (R49). -/
def totaliserModulus : Nat := 1000000000
/-- The ceiling of a 32-bit total (R33, R47) and of the clock (R193). -/
def u32Max : Nat := 4294967295
/-- The ceiling of a window count (R28) and of the report age in seconds (R55). -/
def u16Max : Nat := 65535
/-- The ceiling of an 8-bit count (R97, R158, R179). -/
def u8Max : Nat := 255
/-- The most a vessel's reported ullage can be, in kg (R54). -/
def ullageMax : Nat := 5000000
/-- The most a preset can be, in kg (R3). -/
def presetMax : Nat := 120000
/-- The silent windows in a row at which a channel fails over (R36, R37). -/
def silentLimit : Nat := 3
/-- The most body bytes of a frame (section 10.1). -/
def bodyMax : Nat := 240

/-- DESIGN CHOICE (log 4): the most reactions one command can set off, one after another. The rules never call for as
many: see the log entry for the count. -/
def cascadeFuel : Nat := 4000

/-- FREE VALUE (log 6). The temperature in tenths of a degree of a LIQUID window that closes after a restart and before
the spot's temperature channel has been converted for the first time: R42 takes "the latest converted reading", and there
is none. Its argument is the model's own count of such windows. -/
opaque freeTemperature : Nat → Int

end Sys2Proof.Config
end

