-- ==== Sys2Proof/WellFormed.lean ====
section
/-! DEFINITION. Which commands can be written down at all: the bounds the frame layout and the analog inputs set.

A command that is not well formed cannot reach the controller. The body of a well-formed request may still be malformed
for its kind: that is R178's business, not this file's. -/

namespace Sys2Proof

/-- The kind codes of the request catalogue (section 10.2). -/
def catalogue : List Byte :=
  [0x01, 0x02, 0x03, 0x04, 0x05, 0x06, 0x07, 0x08,
   0x10, 0x11, 0x12, 0x13, 0x14, 0x15, 0x16, 0x17, 0x18, 0x19, 0x1A, 0x1B, 0x1C, 0x1D, 0x1E, 0x1F, 0x20, 0x21,
   0x30, 0x31, 0x32, 0x33, 0x34, 0x35, 0x36, 0x37, 0x38, 0x40, 0x41]

/-- A body fits a frame: at most 240 bytes (section 10.1). -/
def bodyFits (body : List Byte) : Bool := decide (body.length ≤ Config.bodyMax)

/-- The checks on one command. -/
def Instr.wellFormed : Instr → Bool
  | .readStatus _ _ body => bodyFits body
  | .readSpot _ _ body => bodyFits body
  | .readVessel _ _ body => bodyFits body
  | .readCompressor _ _ body => bodyFits body
  | .readInputs _ _ body => bodyFits body
  | .readTicket _ _ body => bodyFits body
  | .readSnapshot _ _ body => bodyFits body
  | .readConfig _ _ body => bodyFits body
  | .carOrder _ _ body => bodyFits body
  | .listClear _ _ body => bodyFits body
  | .start _ _ body => bodyFits body
  | .stop _ _ body => bodyFits body
  | .abort _ _ body => bodyFits body
  | .hold _ _ body => bodyFits body
  | .resume _ _ body => bodyFits body
  | .spotReset _ _ body => bodyFits body
  | .spotTripReset _ _ body => bodyFits body
  | .valveCommand _ _ body => bodyFits body
  | .seatTake _ _ body => bodyFits body
  | .seatYield _ _ body => bodyFits body
  | .compressorReset _ _ body => bodyFits body
  | .tankUllage _ _ body => bodyFits body
  | .releaseTicket _ _ body => bodyFits body
  | .clearLatches _ _ body => bodyFits body
  | .setMask _ _ body => bodyFits body
  | .siteTrip _ _ body => bodyFits body
  | .configure _ _ body => bodyFits body
  | .listLoad _ _ body => bodyFits body
  | .bypassSet _ _ body => bodyFits body
  | .bypassEnd _ _ body => bodyFits body
  | .compressorService _ _ body => bodyFits body
  | .siteTripReset _ _ body => bodyFits body
  | .setClock _ _ body => bodyFits body
  | .lockMetrology _ _ body => bodyFits body
  | .restart _ _ body => bodyFits body
  | .authenticate _ _ body => bodyFits body
  | .deauthenticate _ _ body => bodyFits body
  | .uncataloguedRequest _ _ kind body => bodyFits body && !catalogue.contains kind
  -- a rejected frame is at most the longest frame without its marker
  | .frameRejected _ bytes => decide (bytes.length ≤ Config.bodyMax + 6)
  | .linkOverrun _ => true
  | .frameSilenceTimeout _ => true
  | .discardSilenceEnd _ => true
  | .replySent _ => true
  | .powerUp => true
  | .supplyLoss => true
  | .rawLevelChange _ _ => true
  | .filterAccept _ => true
  -- the measuring range is 0 to 24,000 microamperes (section 7.4)
  | .analogConversion _ microamps => decide (microamps ≤ 24000)
  | .pulseEdge _ _ => true
  | .windowClose _ => true
  | .provingExpiry _ => true
  | .tempHoldExpiry _ => true
  | .ullageAgeExpiry _ => true
  | .ullageWaitExpiry _ => true
  | .changeoverExpiry _ => true
  | .runUpExpiry _ => true
  | .runDownExpiry _ => true
  | .halfDwell _ => true
  | .dwellExpiry _ => true
  | .pressuriseExpiry _ => true
  | .stallExpiry _ => true
  | .settleTimerExpiry _ => true
  | .settleLimitExpiry _ => true
  | .recoveryProvingExpiry _ => true
  | .recoveryLimitExpiry _ => true
  | .strokeTimeout _ _ => true
  | .disagreementExpiry _ _ => true
  | .bypassExpiry _ _ => true
  | .clockTick => true
  | .markerReceived _ => true

end Sys2Proof
end

