-- ==== Sys2Proof/Decode.lean ====
section
/-! DEFINITION. Frames and their decoding: the frame layout and check of section 10.1, the request catalogue of section
10.2, and the commands that the opcode table's own bits spell (it gives none). -/

namespace Sys2Proof

/-- One byte into the CRC-16 register: generator x^16 + x^12 + x^5 + 1, not reflected (section 10.1). -/
def crcByte (crc : Word) (b : Byte) : Word :=
  (List.range 8).foldl (fun c _ => if c.msb then (c <<< 1) ^^^ 0x1021 else c <<< 1) (crc ^^^ (b.zeroExtend 16 <<< 8))

/-- The frame check: initial value 0xFFFF, no final inversion (section 10.1). -/
def crc16 (bytes : List Byte) : Word := bytes.foldl crcByte 0xFFFF

/-- The high byte of a word, sent first (R188). -/
def Word.high (w : Word) : Byte := w.extractLsb' 8 8
/-- The low byte of a word. -/
def Word.low (w : Word) : Byte := w.extractLsb' 0 8

/-- The marker byte of a frame (section 10.1). -/
def frameMarker : Byte := 0xC5

/-- The bytes of a frame after its marker: length, unit address, kind, tag, body, check (section 10.1). -/
def frameBytes (address kind tag : Byte) (body : List Byte) : List Byte :=
  let covered := BitVec.ofNat 8 body.length :: address :: kind :: tag :: body
  covered ++ [Word.high (crc16 covered), Word.low (crc16 covered)]

/-- What a receiver finds when it looks at the bytes gathered after a marker (R175). -/
inductive FrameVerdict where
  /-- the length byte is above 240 -/
  | oversize
  /-- the frame is not complete yet, or more bytes stand there than a frame has -/
  | incomplete
  /-- the unit address is not the link's own -/
  | badAddress
  /-- the check does not match -/
  | badCheck
  /-- a frame that passes -/
  | valid (kind tag : Byte) (body : List Byte)
  deriving DecidableEq, Repr

/-- The receiver's tests on the bytes gathered after a marker, in the order R175 takes them. -/
def judgeFrame (address : Byte) (bytes : List Byte) : FrameVerdict :=
  match bytes with
  | n :: a :: kind :: tag :: rest =>
    if Config.bodyMax < n.toNat then .oversize
    else if rest.length ≠ n.toNat + 2 then .incomplete
    else if a ≠ address then .badAddress
    else
      let body := rest.take n.toNat
      let check := crc16 (n :: a :: kind :: tag :: body)
      if rest.drop n.toNat = [Word.high check, Word.low check] then .valid kind tag body else .badCheck
  | n :: _ => if Config.bodyMax < n.toNat then .oversize else .incomplete
  | [] => .incomplete

/-- The request catalogue: each kind code with its command (section 10.2). -/
def requestTable : List (Byte × (Link → Byte → List Byte → Instr)) :=
  [(0x01, .readStatus), (0x02, .readSpot), (0x03, .readVessel), (0x04, .readCompressor), (0x05, .readInputs),
   (0x06, .readTicket), (0x07, .readSnapshot), (0x08, .readConfig), (0x10, .carOrder), (0x11, .listClear),
   (0x12, .start), (0x13, .stop), (0x14, .abort), (0x15, .hold), (0x16, .resume), (0x17, .spotReset),
   (0x18, .spotTripReset), (0x19, .valveCommand), (0x1A, .seatTake), (0x1B, .seatYield), (0x1C, .compressorReset),
   (0x1D, .tankUllage), (0x1E, .releaseTicket), (0x1F, .clearLatches), (0x20, .setMask), (0x21, .siteTrip),
   (0x30, .configure), (0x31, .listLoad), (0x32, .bypassSet), (0x33, .bypassEnd), (0x34, .compressorService),
   (0x35, .siteTripReset), (0x36, .setClock), (0x37, .lockMetrology), (0x38, .restart), (0x40, .authenticate),
   (0x41, .deauthenticate)]

/-- The command that a valid frame on a link stands for (R178, check 1). -/
def requestOfFrame (l : Link) (kind tag : Byte) (body : List Byte) : Instr :=
  match requestTable.find? (fun r => r.1 == kind) with
  | some r => r.2 l tag body
  | none => .uncataloguedRequest l tag kind body

/-- The link, kind code, tag and body of a command that is a request frame; none for an event. -/
def Instr.request : Instr → Option (Link × Byte × Byte × List Byte)
  | .readStatus l tag body => some (l, 0x01, tag, body)
  | .readSpot l tag body => some (l, 0x02, tag, body)
  | .readVessel l tag body => some (l, 0x03, tag, body)
  | .readCompressor l tag body => some (l, 0x04, tag, body)
  | .readInputs l tag body => some (l, 0x05, tag, body)
  | .readTicket l tag body => some (l, 0x06, tag, body)
  | .readSnapshot l tag body => some (l, 0x07, tag, body)
  | .readConfig l tag body => some (l, 0x08, tag, body)
  | .carOrder l tag body => some (l, 0x10, tag, body)
  | .listClear l tag body => some (l, 0x11, tag, body)
  | .start l tag body => some (l, 0x12, tag, body)
  | .stop l tag body => some (l, 0x13, tag, body)
  | .abort l tag body => some (l, 0x14, tag, body)
  | .hold l tag body => some (l, 0x15, tag, body)
  | .resume l tag body => some (l, 0x16, tag, body)
  | .spotReset l tag body => some (l, 0x17, tag, body)
  | .spotTripReset l tag body => some (l, 0x18, tag, body)
  | .valveCommand l tag body => some (l, 0x19, tag, body)
  | .seatTake l tag body => some (l, 0x1A, tag, body)
  | .seatYield l tag body => some (l, 0x1B, tag, body)
  | .compressorReset l tag body => some (l, 0x1C, tag, body)
  | .tankUllage l tag body => some (l, 0x1D, tag, body)
  | .releaseTicket l tag body => some (l, 0x1E, tag, body)
  | .clearLatches l tag body => some (l, 0x1F, tag, body)
  | .setMask l tag body => some (l, 0x20, tag, body)
  | .siteTrip l tag body => some (l, 0x21, tag, body)
  | .configure l tag body => some (l, 0x30, tag, body)
  | .listLoad l tag body => some (l, 0x31, tag, body)
  | .bypassSet l tag body => some (l, 0x32, tag, body)
  | .bypassEnd l tag body => some (l, 0x33, tag, body)
  | .compressorService l tag body => some (l, 0x34, tag, body)
  | .siteTripReset l tag body => some (l, 0x35, tag, body)
  | .setClock l tag body => some (l, 0x36, tag, body)
  | .lockMetrology l tag body => some (l, 0x37, tag, body)
  | .restart l tag body => some (l, 0x38, tag, body)
  | .authenticate l tag body => some (l, 0x40, tag, body)
  | .deauthenticate l tag body => some (l, 0x41, tag, body)
  | .uncataloguedRequest l tag kind body => some (l, kind, tag, body)
  | .frameRejected _ _ => none
  | .linkOverrun _ => none
  | .frameSilenceTimeout _ => none
  | .discardSilenceEnd _ => none
  | .replySent _ => none
  | .powerUp => none
  | .supplyLoss => none
  | .rawLevelChange _ _ => none
  | .filterAccept _ => none
  | .analogConversion _ _ => none
  | .pulseEdge _ _ => none
  | .windowClose _ => none
  | .provingExpiry _ => none
  | .tempHoldExpiry _ => none
  | .ullageAgeExpiry _ => none
  | .ullageWaitExpiry _ => none
  | .changeoverExpiry _ => none
  | .runUpExpiry _ => none
  | .runDownExpiry _ => none
  | .halfDwell _ => none
  | .dwellExpiry _ => none
  | .pressuriseExpiry _ => none
  | .stallExpiry _ => none
  | .settleTimerExpiry _ => none
  | .settleLimitExpiry _ => none
  | .recoveryProvingExpiry _ => none
  | .recoveryLimitExpiry _ => none
  | .strokeTimeout _ _ => none
  | .disagreementExpiry _ _ => none
  | .bypassExpiry _ _ => none
  | .clockTick => none
  | .markerReceived _ => none

/-- The encoder: the bytes after the marker of the frame that carries a request to a link with a unit address. -/
def encodeRequest (address : Byte) (i : Instr) : Option (List Byte) :=
  i.request.map fun r => frameBytes address r.2.1 r.2.2.1 r.2.2.2

/-- The decoder: the request that the bytes after a marker spell on a link with a unit address. -/
def decodeRequest (l : Link) (address : Byte) (bytes : List Byte) : Option Instr :=
  match judgeFrame address bytes with
  | .valid kind tag body => some (requestOfFrame l kind tag body)
  | .oversize => none
  | .incomplete => none
  | .badAddress => none
  | .badCheck => none

/-- The command that a word spells by the bits of spec/opcode_table.json. No row of that table gives bits (its rows are
commands and events, not instruction words), so no word spells a command. -/
def decodeTableWord (_nbits _w : Nat) : Option Instr := none

end Sys2Proof
end

