-- ==== Sys2Proof/Machine/State.lean ====
section
/-! DEFINITION. The state of the controller as plain data: every register, list, timer, flag and stored setting the spec
gives it, the queue of waiting commands, and the state right after reset.

A timer is the time it has left in milliseconds, or nothing while it is stopped. Values that the spec derives from others
(free ullage, valve position, function readings, outputs, the attention line) are not stored: `Machine/Ops.lean` and
`Machine/Flags.lean` compute them. -/

namespace Sys2Proof.Machine

/-- A timer: its remaining time in milliseconds, or none while it is stopped. -/
abbrev Timer := Option Nat

/-! ### Names -/

/-- The directions of a compressor (R73). -/
inductive Direction where
  | push
  | pull
  deriving DecidableEq, Repr

/-- The action of a valve step, command or stroke (R115). -/
inductive Action where
  | toOpen
  | toClose
  deriving DecidableEq, Repr

/-- The position of a valve (R114). -/
inductive Position where
  | isOpen
  | isClosed
  | travel
  | invalid
  deriving DecidableEq, Repr

/-- The mode of a car order; PRESET carries its mass in kg (section 1.1). -/
inductive Mode where
  | preset (kg : Nat)
  | empty
  deriving DecidableEq, Repr

/-- The phase of a record (R5). -/
inductive Phase where
  | lineUp
  | liquid
  | recovery
  deriving DecidableEq, Repr

/-- The end causes (R6). -/
inductive EndCause where
  | presetReached
  | liquidOut
  | stopped
  | aborted
  | tripped
  | restart
  deriving DecidableEq, Repr

/-- The hold causes (section 1.2). -/
inductive HoldCause where
  | stall
  | pulseFault
  | valve
  | pressuriseTimeout
  | operator
  deriving DecidableEq, Repr

/-- The trip causes (section 8.1). -/
inductive TripCause where
  | permissive
  | spotEsd
  | vesselHigh
  | carOverpressure
  | valve
  | site
  deriving DecidableEq, Repr

/-- The reasons carried with PAUSED. -/
inductive PauseReason where
  | ullage
  | compressor
  deriving DecidableEq, Repr

/-- The fourteen spot states (section 1.3); PAUSED carries its reason. -/
inductive SpotState where
  | vacant
  | ordered
  | liningUp
  | ready
  | awaitCompressor
  | pressurising
  | transfer
  | paused (reason : PauseReason)
  | held
  | settling
  | recovery
  | closing
  | complete
  | tripped
  deriving DecidableEq, Repr

/-- The functions of one spot (section 7.2). -/
inductive SpotFn where
  | earth
  | armLiq
  | armVap
  | chock
  | vapourInLine
  | spotEsd
  | openProven (v : Valve)
  | closedProven (v : Valve)
  deriving DecidableEq, Repr

/-- The functions of one compressor (section 7.2). -/
inductive CompFn where
  | running
  | pushProven
  | pullProven
  | fault
  deriving DecidableEq, Repr

/-- The 156 functions of the input map (section 7.2). -/
inductive FieldFn where
  | spot (sp : SpotId) (f : SpotFn)
  | comp (c : CompId) (f : CompFn)
  | esd (i : Fin 4)
  | gas (i : Fin 8)
  | highLevel (v : VesselId)
  deriving DecidableEq, Repr

/-! ### Stored settings (chapter 11) -/

/-- The unit record (section 10.6, target 1). -/
structure UnitCfg where
  ladder : Bank 8 Nat
  pullSetpoint : Nat
  gasVote : Nat
  attemptLimit : Nat
  supervisorCode : Nat
  deriving DecidableEq, Repr

/-- A spot record (section 10.6, target 2). -/
structure SpotCfg where
  inService : Bool
  provingTime : Nat
  blockSize : Nat
  presetLead : Nat
  overrunTolerance : Nat
  ullageWaitLimit : Nat
  kFactor : Nat
  meterFactor : Nat
  flowOn : Nat
  flowOff : Nat
  mismatchThreshold : Nat
  holdOnPulseFault : Bool
  floorStep : Nat
  dwell : Nat
  slipThreshold : Nat
  targetFlow : Nat
  pressuriseLimit : Nat
  stallDp : Nat
  stallTime : Nat
  emptyCount : Nat
  settleTime : Nat
  carMaximum : Nat
  vacuumGuard : Nat
  recoveryProving : Nat
  recoveryLimit : Nat
  strokeTimeouts : Bank 5 Nat
  deriving DecidableEq, Repr

/-- A product entry (section 10.6, target 3). -/
structure ProductCfg where
  configured : Bool
  alpha : Nat
  density : Nat
  fallback : Int
  deriving DecidableEq, Repr

/-- A vessel record (section 10.6, target 4). -/
structure VesselCfg where
  inService : Bool
  ageLimit : Nat
  deriving DecidableEq, Repr

/-- A compressor record (section 10.6, target 5). -/
structure CompCfg where
  changeover : Nat
  runUp : Nat
  runDown : Nat
  deriving DecidableEq, Repr

/-- The edge choices (R136). -/
inductive EdgeChoice where
  | never
  | activation
  | deactivation
  | both
  deriving DecidableEq, Repr

/-- An input map line (section 10.6, target 6). -/
structure LineCfg where
  function : Option FieldFn
  activeLevel : Level
  filterTime : Nat
  edge : EdgeChoice
  deriving DecidableEq, Repr

/-- One step of a valve list (section 6.2). -/
structure ListStep where
  valve : Valve
  action : Action
  wait : Bool
  deriving DecidableEq, Repr

/-- The serial rates (section 10.6, target 8). -/
inductive Rate where
  | baud9600
  | baud19200
  | baud38400
  | baud115200
  deriving DecidableEq, Repr

/-- A link record (section 10.6, target 8). -/
structure LinkCfg where
  address : Byte
  rate : Rate
  deriving DecidableEq, Repr

/-- An analog scaling record (section 10.6, target 9). -/
structure ScaleCfg where
  low : Int
  high : Int
  deriving DecidableEq, Repr

/-- The metrology lock (section 11.2). -/
inductive MetrologyLock where
  | none
  | pending
  | effective
  deriving DecidableEq, Repr

/-! ### The spot (chapters 1, 2, 5, 6, 8) -/

/-- A stored car order (R3). -/
structure Order where
  carId : List Byte
  product : ProductId
  vessel : VesselId
  mode : Mode
  block : Nat
  recoveryTarget : Option Nat
  lineUpOverride : Option (List ListStep)
  deriving DecidableEq, Repr

/-- The unloading record (section 1.2), with its once-per-record indications. -/
structure Record where
  order : Order
  phase : Phase
  endCause : Option EndCause
  holdCause : Option HoldCause
  tripCause : Option TripCause
  enteredTransfer : Bool
  startTimestamp : Option Nat
  endTimestamp : Option Nat
  grossLiquid : Nat
  grossVoid : Nat
  standardVolume : Nat
  netMass : Nat
  rawRemainder : Nat
  standardRemainder : Nat
  massRemainder : Nat
  overrun : Nat
  mismatch : Nat
  failover : Bool
  tempHeld : Bool
  tempSubstituted : Bool
  tempClamped : Bool
  tempExtremes : Option (Int × Int)
  recoveryEnd : Option Int
  recoveryIncomplete : Bool
  ticketPending : Bool
  pulseFault : Bool
  overrunLatched : Bool
  deriving DecidableEq, Repr

/-- The health of a record's two pulse channels (section 2.1). -/
inductive Health where
  | both
  | aFailed
  | bFailed
  deriving DecidableEq, Repr

/-- The temperature hold state (R44); the hold carries its timer's remaining milliseconds. -/
inductive TempHold where
  | live
  | held (remaining : Nat)
  | substituted
  deriving DecidableEq, Repr

/-- The source of a window temperature (R42). -/
inductive TempSource where
  | live
  | held
  | substituted
  deriving DecidableEq, Repr

/-- The class of a window (R39). -/
inductive WindowClass where
  | void
  | liquid
  deriving DecidableEq, Repr

/-- The window result handed on at step 8 of R31. -/
structure WindowResult where
  count : Nat
  flow : Bool
  cls : WindowClass
  gross : Nat
  grams : Nat
  temperature : Option Int
  deriving DecidableEq, Repr

/-- What the last LIQUID window used (R51). -/
structure LiquidResult where
  temperature : Int
  source : TempSource
  ctl : Nat
  deriving DecidableEq, Repr

/-- The meter channel (section 2.1). -/
structure Meter where
  window : Timer
  countA : Nat
  countB : Nat
  vapourSeen : Bool
  primary : PulseChannel
  health : Health
  silentA : Nat
  silentB : Nat
  flow : Bool
  last : Option WindowResult
  lastLiquid : Option LiquidResult
  hold : TempHold
  totaliser : Nat
  totaliserGrams : Nat
  deriving DecidableEq, Repr

/-- The transfer driver (section 5.1). -/
structure Driver where
  step : Nat
  dwell : Timer
  secondHalf : Bool
  dwellMass : Nat
  slips : Nat
  lowYield : Bool
  pressurise : Timer
  stall : Timer
  voidRun : Nat
  settle : Timer
  settleLimit : Timer
  recoveryLimit : Timer
  recoveryProving : Timer
  deriving DecidableEq, Repr

/-- The owner of a stroke (section 6.1): a step of the list in progress (its index from 0), an abandoned list, the transfer
logic for LH, VALVE COMMAND, or de-energise. -/
inductive StrokeOwner where
  | listStep (i : Nat)
  | abandonedList
  | lh
  | valveCommand
  | deEnergise
  deriving DecidableEq, Repr

/-- A stroke in progress (R116). -/
structure Stroke where
  target : Action
  remaining : Nat
  owner : StrokeOwner
  deriving DecidableEq, Repr

/-- One valve of the valve supervisor (section 6.1). -/
structure ValveUnit where
  command : Action
  stroke : Option Stroke
  disagreement : Timer
  fault : Bool
  deriving DecidableEq, Repr

/-- The lists an engine can run (R128). -/
inductive ListKind where
  | lineUpOverride
  | lineUpConfigured
  | closeDown
  deriving DecidableEq, Repr

/-- A list taken by an engine: its steps, how many have been issued, and whether the last issued one waits for its proof. -/
structure ListRun where
  kind : ListKind
  steps : List ListStep
  issued : Nat
  waiting : Bool
  deriving DecidableEq, Repr

/-- The list engine of a spot (section 6.2). -/
inductive Engine where
  | idle
  | running (r : ListRun)
  | stopped (r : ListRun) (failed : Nat)
  | closedCheck
  deriving DecidableEq, Repr

/-- A pressure or temperature as a snapshot holds it: the reading, or absent, and the channel's fault state (R158). -/
structure Sampled where
  reading : Option Int
  fault : Bool
  deriving DecidableEq, Repr

/-- A trip snapshot (R158). -/
structure Snapshot where
  cause : TripCause
  state : SpotState
  holdCause : Option HoldCause
  phase : Phase
  netMass : Nat
  grossVoid : Nat
  carPressure : Sampled
  vesselPressure : Sampled
  temperature : Sampled
  ladderStep : Nat
  compressor : Option CompId
  time : Nat
  laterTrips : Nat
  deriving DecidableEq, Repr

/-- The retained copy of an open record, as of its last retained write (R47, R166). -/
structure Retained where
  record : Record
  primary : PulseChannel
  health : Health
  deriving DecidableEq, Repr

/-- One spot: its controller, meter channel, transfer driver, valves, list engine and snapshot slot. -/
structure Spot where
  state : SpotState
  seat : Link
  record : Option Record
  /-- the car identifier and ticket number kept in COMPLETE (R7) -/
  completed : Option (List Byte × Nat)
  proving : Timer
  ullageWait : Timer
  meter : Meter
  driver : Driver
  valves : Bank 5 ValveUnit
  engine : Engine
  faultedValve : Option Valve
  snapshot : Option Snapshot
  retained : Option Retained
  deriving DecidableEq, Repr

/-! ### Vessels (chapter 3) and compressors (chapter 4) -/

/-- The rank of a reservation (R61). -/
inductive Rank where
  | current
  | next
  deriving DecidableEq, Repr

/-- A granted block (R61). -/
structure Reservation where
  spot : SpotId
  granted : Nat
  outstanding : Nat
  rank : Rank
  deriving DecidableEq, Repr

/-- A block request waiting in a pending list (R59). -/
structure BlockRequest where
  spot : SpotId
  amount : Nat
  deriving DecidableEq, Repr

/-- A vessel admission unit (section 3.1). The age is in milliseconds; `ageLimit` is the limit in seconds that the last
report took (R55). -/
structure Vessel where
  ullage : Nat
  age : Option Nat
  ageLimit : Nat
  stale : Bool
  committed : Nat
  reservations : List Reservation
  requests : List BlockRequest
  remainders : Bank 8 Nat
  deriving DecidableEq, Repr

/-- The compressor states (section 4.1). STOPPING says whether it is the restart hold of R93. -/
inductive CompState where
  | outOfService
  | idle
  | changeoverFromIdle
  | changeoverInPlace
  | starting
  | runPush
  | runPull
  | stopping (restartHold : Bool)
  | fault
  deriving DecidableEq, Repr

/-- A compressor (section 4.1): the assignment carries the granted direction (R75). -/
structure Comp where
  state : CompState
  position : Direction
  commanded : Direction
  assigned : Option (SpotId × Direction)
  timer : Timer
  deriving DecidableEq, Repr

/-- An entry of the wait queue (section 4.4). -/
structure QueueEntry where
  spot : SpotId
  direction : Direction
  clock : Nat
  deriving DecidableEq, Repr

/-! ### Field inputs (chapter 7) -/

/-- A discrete line (section 7.1). The candidate is always the level opposite the filtered one; it holds the ends of its
acceptance window in milliseconds after the change. -/
structure Line where
  raw : Level
  filtered : Level
  candidate : Option (Nat × Nat)
  deriving DecidableEq, Repr

/-- An analog channel (section 7.4): the loop current of the last conversion since restart, the reading of the last good
one, and the fault state. -/
structure AnalogChannel where
  current : Option Nat
  reading : Option Int
  fault : Bool
  deriving DecidableEq, Repr

/-- A bypass record (section 7.6), its remaining time in milliseconds. -/
structure Bypass where
  spot : SpotId
  function : BypassFn
  remaining : Nat
  link : Link
  deriving DecidableEq, Repr

/-! ### Trips, tickets, latches (chapters 8, 9, 10) -/

/-- The site trip state and its cause set (section 8.1). -/
structure SiteTripState where
  active : Bool
  esd : Bank 4 Bool
  gasVote : Bool
  requestSupervisory : Bool
  requestPanel : Bool
  deriving DecidableEq, Repr

/-- The quality flags of a ticket (R163). -/
structure Quality where
  singleChannel : Bool
  pulseMismatch : Bool
  tempHeld : Bool
  tempSubstituted : Bool
  tempClamped : Bool
  voidExcluded : Bool
  recoveryIncomplete : Bool
  overrun : Bool
  clockNotSet : Bool
  deriving DecidableEq, Repr

/-- A custody ticket (R162). -/
structure Ticket where
  number : Nat
  spot : SpotId
  carId : List Byte
  product : ProductId
  vessel : VesselId
  mode : Mode
  startTimestamp : Option Nat
  endTimestamp : Nat
  grossLiquid : Nat
  grossVoid : Nat
  standardVolume : Nat
  netMass : Nat
  overrun : Nat
  endCause : Option EndCause
  tripCause : Option TripCause
  quality : Quality
  recoveryEnd : Option Int
  tempExtremes : Option (Int × Int)
  totaliser : Nat
  deriving DecidableEq, Repr

/-- An entry of the pending order: the spot and whether it is ready (R170). -/
structure PendingEntry where
  spot : SpotId
  ready : Bool
  deriving DecidableEq, Repr

/-- The latches and their item marks (section 10.4). A unit latch with items is set while one of its marks is; the spot
latches of one spot are a word in the bit positions of the latch table. -/
structure Latches where
  siteTrip : Bool
  vesselStale : Bank 4 Bool
  vesselHigh : Bank 4 Bool
  compressorFault : Bank 3 Bool
  ticketReady : Bool
  ticketQueueFull : Bool
  inputEdge : List FieldFn
  linkOverrun : Bank 2 Bool
  authLockout : Bool
  restarted : Bool
  clockNotSet : Bool
  spot : Bank 8 Word
  deriving DecidableEq, Repr

/-! ### Replies (chapter 10 and the read rules) -/

/-- The result codes (section 10.2). -/
inductive ResultCode where
  | done
  | doneClamped
  | refusedKind
  | refusedField
  | refusedState
  | refusedSeat
  | refusedAuth
  | refusedLocked
  | refusedBusy
  | refusedFull
  | refusedEmpty
  | refusedMismatch
  deriving DecidableEq, Repr

/-- What READ SPOT reports of an order (R26). -/
structure OrderView where
  carId : List Byte
  product : ProductId
  vessel : VesselId
  mode : Mode
  block : Nat
  recoveryTarget : Option Nat
  overridePresent : Bool
  deriving DecidableEq, Repr

/-- What READ SPOT reports of a record (R26). -/
structure RecordView where
  phase : Phase
  endCause : Option EndCause
  holdCause : Option HoldCause
  tripCause : Option TripCause
  enteredTransfer : Bool
  grossLiquid : Nat
  grossVoid : Nat
  standardVolume : Nat
  netMass : Nat
  overrun : Nat
  mismatch : Nat
  failover : Bool
  tempHeld : Bool
  tempSubstituted : Bool
  tempClamped : Bool
  recoveryEnd : Option Int
  recoveryIncomplete : Bool
  ticketPending : Bool
  deriving DecidableEq, Repr

/-- What READ SPOT reports of the meter channel (R51). -/
structure MeterView where
  primary : PulseChannel
  health : Health
  flow : Bool
  last : Option (Nat × WindowClass × Nat)
  lastLiquid : Option LiquidResult
  totaliser : Nat
  hold : TempSource
  deriving DecidableEq, Repr

/-- What READ SPOT reports of the transfer driver (R26, R113). Times are in milliseconds. -/
structure DriverView where
  step : Nat
  tableValue : Nat
  dwell : Option (Nat × Bool × Nat × Nat)
  lowYield : Bool
  dp : Option Int
  carPressure : Sampled
  pressurise : Timer
  stall : Timer
  voidRun : Option Nat
  settle : Timer
  settleLimit : Timer
  recoveryLimit : Timer
  recoveryProving : Timer
  deriving DecidableEq, Repr

/-- What READ SPOT reports of one valve (R128). -/
structure ValveView where
  command : Action
  energised : Bool
  openProven : Bool
  closedProven : Bool
  position : Position
  stroke : Option Stroke
  disagreement : Timer
  fault : Bool
  deriving DecidableEq, Repr

/-- The READ SPOT reply (R26, R51, R113, R128). -/
structure SpotView where
  state : SpotState
  seat : Link
  inService : Bool
  order : Option OrderView
  record : Option RecordView
  completed : Option (List Byte × Nat)
  compressor : Option CompId
  queuePosition : Option Nat
  currentBlock : Option Nat
  nextBlock : Option Nat
  requestPending : Bool
  meter : MeterView
  driver : DriverView
  valves : Bank 5 ValveView
  faultedValve : Option Valve
  engine : Engine
  deriving DecidableEq, Repr

/-- The READ VESSEL reply (R72); the age is in seconds. -/
structure VesselView where
  ullage : Nat
  age : Option Nat
  stale : Bool
  committed : Nat
  free : Nat
  reservations : List Reservation
  requests : List BlockRequest
  highLevel : Bool
  pressure : Sampled
  inService : Bool
  deriving DecidableEq, Repr

/-- The READ COMPRESSOR reply (R92). -/
structure CompView where
  state : CompState
  inService : Bool
  position : Direction
  commanded : Direction
  running : Bool
  pushProven : Bool
  pullProven : Bool
  fault : Bool
  assigned : Option (SpotId × Direction)
  setpoint : Option Nat
  output : Nat
  timer : Timer
  faultLatched : Bool
  queue : List QueueEntry
  deriving DecidableEq, Repr

/-- One line of a READ INPUTS reply (R145). -/
structure LineView where
  raw : Level
  filtered : Level
  candidate : Bool
  activeLevel : Level
  filterTime : Nat
  function : Option FieldFn
  deriving DecidableEq, Repr

/-- One function of a READ INPUTS reply (R145). -/
structure FunctionView where
  function : FieldFn
  line : Option Nat
  value : Bool
  reading : Bool
  bypassed : Bool
  edge : EdgeChoice
  edgeLatched : Bool
  deriving DecidableEq, Repr

/-- One analog channel of a READ INPUTS reply (R145). -/
structure ChannelView where
  current : Option Nat
  reading : Option Int
  fault : Bool
  low : Int
  high : Int
  deriving DecidableEq, Repr

/-- One record of a READ INPUTS reply for the bypass table (R145); the time is in seconds. -/
structure BypassView where
  spot : SpotId
  function : BypassFn
  seconds : Nat
  link : Link
  deriving DecidableEq, Repr

/-- The READ INPUTS reply, by section (R145). -/
inductive InputsView where
  | lines (ls : List LineView)
  | functions (fs : List FunctionView)
  | channels (cs : List ChannelView)
  | bypasses (bs : List BypassView) (count : Nat)
  deriving DecidableEq, Repr

/-- The data a reply carries after its result code (R177). STATUS, ticket and configuration replies are the bytes of
section 10.6; the others are the values their rules name. -/
inductive ReplyData where
  | none
  | bytes (bs : List Byte)
  | spot (v : SpotView)
  | vessel (v : VesselView)
  | compressor (v : CompView)
  | inputs (v : InputsView)
  | snapshot (v : Snapshot)
  deriving DecidableEq, Repr

/-- A reply frame (R177), before its check is formed. -/
structure Reply where
  address : Byte
  kind : Byte
  tag : Byte
  code : ResultCode
  data : ReplyData
  deriving DecidableEq, Repr

/-- What happens at the event at which a reply's last byte has been sent, besides the exchange becoming IDLE: a restart
(R177), or new settings of a link (R174). -/
inductive AfterReply where
  | nothing
  | restart
  | applyLink (l : Link) (cfg : LinkCfg)
  deriving DecidableEq, Repr

/-- The receive state of a link (R175). FRAME keeps the link's unit address as it stood at the marker (R174), whether the
exchange was BUSY when the marker arrived (R176), and the bytes gathered so far. -/
inductive RxState where
  | hunt
  | frame (address : Byte) (markedBusy : Bool) (gathered : List Byte)
  | discard
  deriving DecidableEq, Repr

/-- The exchange state of a link (R176). BUSY keeps the reply being sent. -/
inductive Exchange where
  | idle
  | busy (reply : Reply) (after : AfterReply)
  deriving DecidableEq, Repr

/-- A link interface (section 10.1), with the address and rate in force. -/
structure LinkUnit where
  rx : RxState
  exchange : Exchange
  authenticated : Bool
  inForce : LinkCfg
  deriving DecidableEq, Repr

/-! ### The machine -/

/-- The state of the controller. -/
structure State where
  /-- is the supply on? (R194) -/
  powered : Bool
  -- stored settings, retained (chapter 11)
  unit : UnitCfg
  spotCfg : Bank 8 SpotCfg
  products : Bank 8 ProductCfg
  vesselCfg : Bank 4 VesselCfg
  compCfg : Bank 3 CompCfg
  compService : Bank 3 Bool
  lineCfg : Bank 160 LineCfg
  lineUp : Bank 8 (List ListStep)
  closeDown : Bank 8 (List ListStep)
  linkCfg : Bank 2 LinkCfg
  scaling : Bank 20 ScaleCfg
  unitMask : Word
  spotMask : Word
  lock : MetrologyLock
  /-- the clock: NOT SET, or its value in seconds (R193) -/
  clock : Option Nat
  -- the blocks
  spots : Bank 8 Spot
  vessels : Bank 4 Vessel
  comps : Bank 3 Comp
  queue : List QueueEntry
  lines : Bank 160 Line
  analog : Bank 20 AnalogChannel
  bypasses : List Bypass
  siteTrip : SiteTripState
  tickets : List Ticket
  ticketCounter : Nat
  pendingOrder : List PendingEntry
  links : Bank 2 LinkUnit
  failures : Nat
  lockout : Bool
  latches : Latches
  /-- the commands that are waiting, the next one first -/
  pending : List Instr
  /-- the MODEL's own: how many free temperatures have been used (log 6) -/
  freeCount : Nat
  deriving DecidableEq, Repr

/-- The reasons a command can fault. There is none: the spec gives every command an effect in every state, or says that it
changes nothing. -/
inductive Fault where
  deriving DecidableEq, Repr

/-- The reasons a command can be refused by the MODEL (a request that the controller refuses is no such thing: it is
answered with a REFUSED code and the machine goes on). -/
inductive Refusal where
  /-- Raised by `exec` for a command whose meaning has not been written. Safe: nothing is claimed of it. No arm raises it. -/
  | notModelled (mnemonic : String)
  deriving DecidableEq, Repr

/-! ### Reset: the controller as delivered, right after its first power-up -/

/-- The index of a link. -/
def linkIndex : Link → Fin 2
  | .supervisory => 0
  | .panel => 1

/-- The index of a valve, in the order LA, VA, VH, DR, LH (R140). -/
def valveIndex : Valve → Fin 5
  | .la => 0
  | .va => 1
  | .vh => 2
  | .dr => 3
  | .lh => 4

/-- The unit record as delivered: the defaults, supervisor code 0 (section 11.1). -/
def UnitCfg.delivered : UnitCfg where
  ladder := ⟨[50, 100, 150, 200, 250, 300, 350, 400], rfl⟩
  pullSetpoint := 300
  gasVote := 2
  attemptLimit := 3
  supervisorCode := 0

/-- A spot record as delivered: out of service, the defaults (section 11.1). -/
def SpotCfg.delivered : SpotCfg where
  inService := false
  provingTime := 10
  blockSize := 5000
  presetLead := 200
  overrunTolerance := 50
  ullageWaitLimit := 600
  kFactor := 500000
  meterFactor := 10000
  flowOn := 20
  flowOff := 8
  mismatchThreshold := 10
  holdOnPulseFault := false
  floorStep := 1
  dwell := 60
  slipThreshold := 4
  targetFlow := 400
  pressuriseLimit := 300
  stallDp := 150
  stallTime := 60
  emptyCount := 6
  settleTime := 5
  carMaximum := 1700
  vacuumGuard := 30
  recoveryProving := 30
  recoveryLimit := 90
  strokeTimeouts := Bank.fill 5 30

/-- A product entry as delivered: not configured; its values are no stored values yet (DESIGN CHOICE, log 7: zeros). -/
def ProductCfg.delivered : ProductCfg where
  configured := false
  alpha := 0
  density := 0
  fallback := 0

/-- A vessel record as delivered (section 11.1). -/
def VesselCfg.delivered : VesselCfg where
  inService := true
  ageLimit := 300

/-- A compressor record as delivered (section 4.1). -/
def CompCfg.delivered : CompCfg where
  changeover := 15
  runUp := 20
  runDown := 10

/-- An input map line as delivered (section 11.1). -/
def LineCfg.delivered : LineCfg where
  function := none
  activeLevel := .high
  filterTime := 50
  edge := .never

/-- The line-up list of a spot never configured (R120). -/
def defaultLineUp : List ListStep :=
  [⟨.dr, .toClose, true⟩, ⟨.la, .toOpen, true⟩, ⟨.va, .toOpen, true⟩, ⟨.vh, .toOpen, true⟩]

/-- The close-down list of a spot never configured (R120). -/
def defaultCloseDown : List ListStep :=
  [⟨.vh, .toClose, true⟩, ⟨.la, .toClose, true⟩, ⟨.dr, .toOpen, true⟩, ⟨.dr, .toClose, true⟩, ⟨.va, .toClose, true⟩]

/-- A link record as delivered (section 11.1). -/
def LinkCfg.delivered : LinkCfg where
  address := 1
  rate := .baud19200

/-- The default scale of an analog channel (section 7.4). -/
def ScaleCfg.delivered (ch : ChannelId) : ScaleCfg :=
  if ch.val < 8 then ⟨-500, 600⟩ else ⟨0, 2500⟩

/-- A meter channel of a spot in VACANT after restart, with its retained totaliser (section 2.1). -/
def Meter.blank (totaliser grams : Nat) : Meter where
  window := none
  countA := 0
  countB := 0
  vapourSeen := false
  primary := .a
  health := .both
  silentA := 0
  silentB := 0
  flow := false
  last := none
  lastLiquid := none
  hold := .live
  totaliser := totaliser
  totaliserGrams := grams

/-- A transfer driver after restart: at the spot's floor step, every timer stopped (R113). -/
def Driver.blank (floor : Nat) : Driver where
  step := floor
  dwell := none
  secondHalf := false
  dwellMass := 0
  slips := 0
  lowYield := false
  pressurise := none
  stall := none
  voidRun := 0
  settle := none
  settleLimit := none
  recoveryLimit := none
  recoveryProving := none

/-- A valve commanded CLOSE with nothing timed (R129). -/
def ValveUnit.blank : ValveUnit where
  command := .toClose
  stroke := none
  disagreement := none
  fault := false

/-- A spot in VACANT after restart (R27), with its retained totaliser and retained record. -/
def Spot.blank (floor totaliser grams : Nat) (retained : Option Retained) : Spot where
  state := .vacant
  seat := .supervisory
  record := none
  completed := none
  proving := none
  ullageWait := none
  meter := Meter.blank totaliser grams
  driver := Driver.blank floor
  valves := Bank.fill 5 ValveUnit.blank
  engine := .idle
  faultedValve := none
  snapshot := none
  retained := retained

/-- A vessel after restart (R53). -/
def Vessel.blank : Vessel where
  ullage := 0
  age := none
  ageLimit := 0
  stale := true
  committed := 0
  reservations := []
  requests := []
  remainders := Bank.fill 8 0

/-- A compressor after restart, before its inputs are looked at (R93). -/
def Comp.blank : Comp where
  state := .idle
  position := .push
  commanded := .push
  assigned := none
  timer := none

/-- A line whose raw level is low (DESIGN CHOICE, log 8) at its first scan (R132). -/
def Line.blank : Line where
  raw := .low
  filtered := .low
  candidate := none

/-- An analog channel before its first conversion (section 7.4). -/
def AnalogChannel.blank : AnalogChannel where
  current := none
  reading := none
  fault := false

/-- No site trip (section 8.1). -/
def SiteTripState.blank : SiteTripState where
  active := false
  esd := Bank.fill 4 false
  gasVote := false
  requestSupervisory := false
  requestPanel := false

/-- No latch set (R182). -/
def Latches.blank : Latches where
  siteTrip := false
  vesselStale := Bank.fill 4 false
  vesselHigh := Bank.fill 4 false
  compressorFault := Bank.fill 3 false
  ticketReady := false
  ticketQueueFull := false
  inputEdge := []
  linkOverrun := Bank.fill 2 false
  authLockout := false
  restarted := false
  clockNotSet := false
  spot := Bank.fill 8 0

/-- A link after restart, with the settings in force (R174). -/
def LinkUnit.blank (cfg : LinkCfg) : LinkUnit where
  rx := .hunt
  exchange := .idle
  authenticated := false
  inForce := cfg

/-- The controller right after reset: the settings as delivered (section 11.1), every block as its chapter says it is after
restart, RESTARTED and CLOCK_NOT_SET latched (R194). DESIGN CHOICE (log 11): the totalisers are delivered at 0 kg with a
remainder of 0 g. -/
def State.reset : State where
  powered := true
  unit := UnitCfg.delivered
  spotCfg := Bank.fill 8 SpotCfg.delivered
  products := Bank.fill 8 ProductCfg.delivered
  vesselCfg := Bank.fill 4 VesselCfg.delivered
  compCfg := Bank.fill 3 CompCfg.delivered
  compService := Bank.fill 3 true
  lineCfg := Bank.fill 160 LineCfg.delivered
  lineUp := Bank.fill 8 defaultLineUp
  closeDown := Bank.fill 8 defaultCloseDown
  linkCfg := Bank.fill 2 LinkCfg.delivered
  scaling := Bank.ofFn ScaleCfg.delivered
  unitMask := 0
  spotMask := 0
  lock := .none
  clock := none
  spots := Bank.fill 8 (Spot.blank 1 0 0 none)
  vessels := Bank.fill 4 Vessel.blank
  comps := Bank.fill 3 Comp.blank
  queue := []
  lines := Bank.fill 160 Line.blank
  analog := Bank.fill 20 AnalogChannel.blank
  bypasses := []
  siteTrip := SiteTripState.blank
  tickets := []
  ticketCounter := 1
  pendingOrder := []
  links := Bank.fill 2 (LinkUnit.blank LinkCfg.delivered)
  failures := 0
  lockout := false
  latches := { Latches.blank with restarted := true, clockNotSet := true }
  pending := []
  freeCount := 0

end Sys2Proof.Machine
end

