-- ==== Sys2Proof/Machine/Flags.lean ====
section
/-! DEFINITION. The latch unit (section 10.4): setting latches and their marks, the latch words of the STATUS reply, the
masks and the attention line. -/

namespace Sys2Proof.Machine

/-- The spot latch kinds (section 10.4). -/
inductive SpotLatch where
  | pulseFault
  | channelFailover
  | tempChannel
  | totaliserRoll
  | overrun
  | flowStall
  | lowYield
  | liquidOut
  | pressureChannel
  | valveFault
  | sequenceConflict
  | trip
  | bypassExpired
  deriving DecidableEq, Repr

/-- The bit of a spot latch kind in its word (section 10.4). -/
def SpotLatch.bit : SpotLatch → Nat
  | .pulseFault => 0
  | .channelFailover => 1
  | .tempChannel => 2
  | .totaliserRoll => 3
  | .overrun => 4
  | .flowStall => 5
  | .lowYield => 6
  | .liquidOut => 7
  | .pressureChannel => 8
  | .valveFault => 9
  | .sequenceConflict => 10
  | .trip => 11
  | .bypassExpired => 12

/-- The word with one bit set. -/
def bitWord (i : Nat) : Word := 1#16 <<< i

/-- The positions the latch table gives for unit kinds, bits 0 to 10 (section 10.4). -/
def unitKinds : Word := 0x07FF
/-- The positions the latch table gives for spot kinds, bits 0 to 12 (section 10.4). -/
def spotKinds : Word := 0x1FFF

/-- Latch a spot kind for a spot (R182): a latch already set stays set. -/
def State.latchSpot (s : State) (sp : SpotId) (k : SpotLatch) : State :=
  { s with latches := { s.latches with spot := s.latches.spot.modify sp (fun w => w ||| bitWord k.bit) } }

/-- Is a spot kind latched for a spot? -/
def State.spotLatched (s : State) (sp : SpotId) (k : SpotLatch) : Bool :=
  (s.latches.spot.get sp &&& bitWord k.bit) != 0

/-- Latch SITE_TRIP (R146). -/
def State.latchSiteTrip (s : State) : State := { s with latches := { s.latches with siteTrip := true } }

/-- Latch VESSEL_STALE with a vessel's mark (R55). -/
def State.latchVesselStale (s : State) (v : VesselId) : State :=
  { s with latches := { s.latches with vesselStale := s.latches.vesselStale.set v true } }

/-- Latch VESSEL_HIGH with a vessel's mark (R70). -/
def State.latchVesselHigh (s : State) (v : VesselId) : State :=
  { s with latches := { s.latches with vesselHigh := s.latches.vesselHigh.set v true } }

/-- Latch COMPRESSOR_FAULT with a compressor's mark (R81). -/
def State.latchCompFault (s : State) (c : CompId) : State :=
  { s with latches := { s.latches with compressorFault := s.latches.compressorFault.set c true } }

/-- Latch TICKET_READY (R169). -/
def State.latchTicketReady (s : State) : State := { s with latches := { s.latches with ticketReady := true } }

/-- Latch TICKET_QUEUE_FULL (R169). -/
def State.latchTicketQueueFull (s : State) : State := { s with latches := { s.latches with ticketQueueFull := true } }

/-- Latch INPUT_EDGE with a function's mark (R136). -/
def State.latchInputEdge (s : State) (f : FieldFn) : State :=
  { s with latches :=
    { s.latches with inputEdge := if f ∈ s.latches.inputEdge then s.latches.inputEdge else s.latches.inputEdge ++ [f] } }

/-- Latch LINK_OVERRUN with a link's mark (R176). -/
def State.latchLinkOverrun (s : State) (l : Link) : State :=
  { s with latches := { s.latches with linkOverrun := s.latches.linkOverrun.set (linkIndex l) true } }

/-- Latch AUTH_LOCKOUT (R180). -/
def State.latchAuthLockout (s : State) : State := { s with latches := { s.latches with authLockout := true } }

/-- Latch RESTARTED and CLOCK_NOT_SET (R194). -/
def State.latchRestarted (s : State) : State :=
  { s with latches := { s.latches with restarted := true, clockNotSet := true } }

/-- A word whose bits, from bit 0 up, are given. -/
def wordOfBits (bits : List Bool) : Word :=
  bits.foldr (fun b w => (w <<< 1) ||| (if b then 1#16 else 0#16)) 0

/-- The unit latch word of the STATUS reply (section 10.4): a unit latch with items is set while one of its marks is. -/
def Latches.unitWord (t : Latches) : Word :=
  wordOfBits [t.siteTrip, t.vesselStale.any id, t.vesselHigh.any id, t.compressorFault.any id, t.ticketReady,
    t.ticketQueueFull, !t.inputEdge.isEmpty, t.linkOverrun.any id, t.authLockout, t.restarted, t.clockNotSet]

/-- Is bit `i` of a word set? -/
def bitSet (w : Word) (i : Nat) : Bool := w.getLsbD i

/-- The latches with the named unit kinds, and their item marks, cleared (R183). -/
def Latches.clearUnit (t : Latches) (kinds : Word) : Latches :=
  { t with
    siteTrip := t.siteTrip && !bitSet kinds 0
    vesselStale := if bitSet kinds 1 then Bank.fill 4 false else t.vesselStale
    vesselHigh := if bitSet kinds 2 then Bank.fill 4 false else t.vesselHigh
    compressorFault := if bitSet kinds 3 then Bank.fill 3 false else t.compressorFault
    ticketReady := t.ticketReady && !bitSet kinds 4
    ticketQueueFull := t.ticketQueueFull && !bitSet kinds 5
    inputEdge := if bitSet kinds 6 then [] else t.inputEdge
    linkOverrun := if bitSet kinds 7 then Bank.fill 2 false else t.linkOverrun
    authLockout := t.authLockout && !bitSet kinds 8
    restarted := t.restarted && !bitSet kinds 9
    clockNotSet := t.clockNotSet && !bitSet kinds 10 }

/-- The latches with the named spot kinds cleared for the named spots (R183). -/
def Latches.clearSpots (t : Latches) (kinds : Word) (spots : Byte) : Latches :=
  { t with spot := Bank.ofFn fun i => if spots.getLsbD i.val then t.spot.get i &&& ~~~kinds else t.spot.get i }

/-- Is at least one latch of an unmasked kind set? (R185) -/
def State.latchUnmasked (s : State) : Bool :=
  (s.latches.unitWord &&& ~~~s.unitMask) != 0 || s.latches.spot.any (fun w => (w &&& ~~~s.spotMask) != 0)

/-- The attention line: asserted while a latch of an unmasked kind is set; released with the supply off (R185). -/
def State.attention (s : State) : Bool := s.powered && s.latchUnmasked

end Sys2Proof.Machine
end

