-- ==== Sys2Proof/Machine/Ops.lean ====
section
/-! DEFINITION. The named operations over the state: updates of one item, function readings, channels, positions, outputs
and the other values that the spec derives from what is stored. -/

namespace Sys2Proof.Machine

/-! ### Updates of one item -/

/-- Change one spot. -/
def State.modSpot (s : State) (sp : SpotId) (f : Spot → Spot) : State := { s with spots := s.spots.modify sp f }

/-- Change one vessel. -/
def State.modVessel (s : State) (v : VesselId) (f : Vessel → Vessel) : State := { s with vessels := s.vessels.modify v f }

/-- Change one compressor. -/
def State.modComp (s : State) (c : CompId) (f : Comp → Comp) : State := { s with comps := s.comps.modify c f }

/-- Change one link interface. -/
def State.modLink (s : State) (l : Link) (f : LinkUnit → LinkUnit) : State :=
  { s with links := s.links.modify (linkIndex l) f }

/-- Change one discrete line. -/
def State.modLine (s : State) (i : LineId) (f : Line → Line) : State := { s with lines := s.lines.modify i f }

/-- Change one analog channel. -/
def State.modAnalog (s : State) (ch : ChannelId) (f : AnalogChannel → AnalogChannel) : State :=
  { s with analog := s.analog.modify ch f }

/-- Change the open record of a spot, if there is one. -/
def Spot.modRecord (f : Record → Record) (p : Spot) : Spot := { p with record := p.record.map f }

/-- Change the meter channel of a spot. -/
def Spot.modMeter (f : Meter → Meter) (p : Spot) : Spot := { p with meter := f p.meter }

/-- Change the transfer driver of a spot. -/
def Spot.modDriver (f : Driver → Driver) (p : Spot) : Spot := { p with driver := f p.driver }

/-- Change one valve of a spot. -/
def Spot.modValve (v : Valve) (f : ValveUnit → ValveUnit) (p : Spot) : Spot :=
  { p with valves := p.valves.modify (valveIndex v) f }

/-- Seconds as the milliseconds of a timer. -/
def seconds (n : Nat) : Nat := n * 1000

/-- A timer has run out: it runs, and no time is left on it (log 13). -/
def timerDue (t : Timer) : Bool := decide (t = some 0)

/-! ### The lists of like things -/

/-- The spots in order. -/
def allSpots : List SpotId := [0, 1, 2, 3, 4, 5, 6, 7]
/-- The compressors in order. -/
def allComps : List CompId := [0, 1, 2]
/-- The vessels in order. -/
def allVessels : List VesselId := [0, 1, 2, 3]
/-- The valves in order. -/
def allValves : List Valve := [.la, .va, .vh, .dr, .lh]

/-! ### Clock, spots and records -/

/-- The clock value: seconds since 2000-01-01 00:00:00, or 0 while the clock is not set (section 1.2, R193). -/
def State.clockValue (s : State) : Nat := s.clock.getD 0

/-- The state of a spot. -/
def State.stateOf (s : State) (sp : SpotId) : SpotState := (s.spots.get sp).state

/-- The open record of a spot. -/
def State.recordOf (s : State) (sp : SpotId) : Option Record := (s.spots.get sp).record

/-- The destination vessel of a spot's open record. -/
def State.vesselOf (s : State) (sp : SpotId) : Option VesselId := (s.recordOf sp).map (fun r => r.order.vessel)

/-- The phase of a spot's open record is the given one. -/
def State.inPhase (s : State) (sp : SpotId) (ph : Phase) : Bool :=
  match s.recordOf sp with
  | some r => decide (r.phase = ph)
  | none => false

/-- The trippable states, LINING_UP to CLOSING (section 8.1). -/
def SpotState.trippable : SpotState → Bool
  | .vacant => false
  | .ordered => false
  | .liningUp => true
  | .ready => true
  | .awaitCompressor => true
  | .pressurising => true
  | .transfer => true
  | .paused _ => true
  | .held => true
  | .settling => true
  | .recovery => true
  | .closing => true
  | .complete => false
  | .tripped => false

/-- The states in which a car overpressure is tested (R107). -/
def SpotState.overpressureTested : SpotState → Bool
  | .pressurising => true
  | .transfer => true
  | .paused _ => true
  | .held => true
  | .settling => true
  | .recovery => true
  | _ => false

/-- The seat of a spot is held by a link (R24). -/
def State.holdsSeat (s : State) (sp : SpotId) (l : Link) : Bool := decide ((s.spots.get sp).seat = l)

/-! ### Functions and their readings (section 7.2) -/

/-- The line record and line of a function: the map gives each function at most one line (R133). -/
def State.lineOf (s : State) (f : FieldFn) : Option (LineCfg × Line) :=
  (s.lineCfg.cells.zip s.lines.cells).find? (fun p => decide (p.1.function = some f))

/-- A function's value from its line: active while the filtered level equals the active level; with no line, its safe
value, which is inactive for every function (R130, R133). -/
def State.lineValue (s : State) (f : FieldFn) : Bool :=
  match s.lineOf f with
  | some (c, l) => decide (l.filtered = c.activeLevel)
  | none => false

/-- Is a function on a line? (R133) -/
def State.mapped (s : State) (f : FieldFn) : Bool := (s.lineOf f).isSome

/-- The function a bypass of a spot forces. -/
def bypassSpotFn : BypassFn → SpotFn
  | .earth => .earth
  | .armLiq => .armLiq
  | .armVap => .armVap
  | .chock => .chock
  | .vapourInLine => .vapourInLine

/-- The forced reading: a permissive healthy, VAPOUR_IN_LINE inactive (R135). -/
def bypassForced : BypassFn → Bool
  | .earth => true
  | .armLiq => true
  | .armVap => true
  | .chock => true
  | .vapourInLine => false

/-- The bypass record of a spot's function, if there is one. -/
def State.bypassOf (s : State) (sp : SpotId) (f : BypassFn) : Option Bypass :=
  s.bypasses.find? (fun b => decide (b.spot = sp) && decide (b.function = f))

/-- The bypass record on a function, if there is one. -/
def State.bypassOn (s : State) (f : FieldFn) : Option Bypass :=
  s.bypasses.find? (fun b => decide (f = .spot b.spot (bypassSpotFn b.function)))

/-- A function's reading: forced while a bypass lasts, otherwise its value from its line (R135). -/
def State.reading (s : State) (f : FieldFn) : Bool :=
  match s.bypassOn f with
  | some b => bypassForced b.function
  | none => s.lineValue f

/-- The four permissives (section 7.3). -/
def permissives : List SpotFn := [.earth, .armLiq, .armVap, .chock]

/-- All four permissives of a spot read healthy (R8). -/
def State.allHealthy (s : State) (sp : SpotId) : Bool := permissives.all (fun f => s.reading (.spot sp f))

/-- All four permissives of a spot read unhealthy (R23). -/
def State.allUnhealthy (s : State) (sp : SpotId) : Bool := permissives.all (fun f => !s.reading (.spot sp f))

/-- The gas count (R148). -/
def State.gasCount (s : State) : Nat := ([0, 1, 2, 3, 4, 5, 6, 7].filter (fun i => s.reading (.gas i))).length

/-- At least one of ESD1 to ESD4 reads active (R152). -/
def State.anyEsd (s : State) : Bool := [0, 1, 2, 3].any (fun i => s.reading (.esd i))

/-- The per-spot functions of one spot: the sixteen of section 7.2. -/
def spotFunctions : List SpotFn :=
  [.earth, .armLiq, .armVap, .chock, .vapourInLine, .spotEsd, .openProven .la, .closedProven .la, .openProven .va,
   .closedProven .va, .openProven .vh, .closedProven .vh, .openProven .dr, .closedProven .dr, .openProven .lh,
   .closedProven .lh]

/-! ### Analog channels (section 7.4) -/

/-- AI01 to AI08: the temperature channel of a spot. -/
def tempChannel (sp : SpotId) : ChannelId := ⟨sp.val, by omega⟩
/-- AI09 to AI16: the car pressure channel of a spot. -/
def carChannel (sp : SpotId) : ChannelId := ⟨8 + sp.val, by omega⟩
/-- AI17 to AI20: the vessel pressure channel of a vessel. -/
def vesselChannel (v : VesselId) : ChannelId := ⟨16 + v.val, by omega⟩

/-- A channel's reading with its fault state, as a reply or snapshot shows it. -/
def State.sample (s : State) (ch : ChannelId) : Sampled := ⟨(s.analog.get ch).reading, (s.analog.get ch).fault⟩

/-- A channel's reading while it is out of fault. -/
def State.goodReading (s : State) (ch : ChannelId) : Option Int :=
  if (s.analog.get ch).fault then none else (s.analog.get ch).reading

/-- The differential pressure of a spot: car pressure less vessel pressure; no value while either channel is in fault
(R94). -/
def State.dp (s : State) (sp : SpotId) : Option Int :=
  match s.vesselOf sp with
  | none => none
  | some v =>
    match s.goodReading (carChannel sp), s.goodReading (vesselChannel v) with
    | some car, some vessel => some (car - vessel)
    | _, _ => none

/-- Both pressure channels of a spot are out of fault (R96, R102). -/
def State.pressuresGood (s : State) (sp : SpotId) : Bool :=
  match s.vesselOf sp with
  | none => false
  | some v => !(s.analog.get (carChannel sp)).fault && !(s.analog.get (vesselChannel v)).fault

/-- Divide and round to the nearest integer, a tie away from zero (R45, R138). -/
def roundDiv (num : Int) (den : Nat) : Int :=
  if num < 0 then -(Int.ofNat ((2 * num.natAbs + den) / (2 * den)))
  else Int.ofNat ((2 * num.natAbs + den) / (2 * den))

/-! ### Valves (R114, R115) -/

/-- The position of a valve from its two proofs (R114). -/
def positionOf (openProven closedProven : Bool) : Position :=
  match openProven, closedProven with
  | true, false => .isOpen
  | false, true => .isClosed
  | false, false => .travel
  | true, true => .invalid

/-- The position of a valve of a spot (R114). -/
def State.position (s : State) (sp : SpotId) (v : Valve) : Position :=
  positionOf (s.reading (.spot sp (.openProven v))) (s.reading (.spot sp (.closedProven v)))

/-- A position shows a command: OPEN under OPEN, CLOSED under CLOSE (R114). -/
def Position.matches (p : Position) (a : Action) : Bool :=
  match a with
  | .toOpen => decide (p = .isOpen)
  | .toClose => decide (p = .isClosed)

/-- A valve of a spot shows an action's position. -/
def State.shows (s : State) (sp : SpotId) (v : Valve) (a : Action) : Bool := (s.position sp v).matches a

/-- A valve of a spot. -/
def State.valve (s : State) (sp : SpotId) (v : Valve) : ValveUnit := (s.spots.get sp).valves.get (valveIndex v)

/-- The stroke timeout of a valve as stored, in milliseconds (R116). -/
def State.strokeTime (s : State) (sp : SpotId) (v : Valve) : Nat :=
  seconds ((s.spotCfg.get sp).strokeTimeouts.get (valveIndex v))

/-! ### Compressors -/

/-- The compressor assigned to a spot (R86). -/
def State.compOf (s : State) (sp : SpotId) : Option CompId :=
  allComps.find? (fun c => decide ((s.comps.get c).assigned.map Prod.fst = some sp))

/-- The spot holds a compressor in RUN_PUSH (R100). -/
def State.holdsRunPush (s : State) (sp : SpotId) : Bool :=
  match s.compOf sp with
  | some c => decide ((s.comps.get c).state = .runPush)
  | none => false

/-- A spot stands in the wait queue. -/
def State.queued (s : State) (sp : SpotId) : Bool := s.queue.any (fun e => decide (e.spot = sp))

/-- The ladder table value of a step (section 5.1). -/
def State.ladderValue (s : State) (step : Nat) : Nat := s.unit.ladder.cells.getD (step - 1) 0

/-- The setpoint of a compressor in cbar: the table value of its holder's step in RUN_PUSH, the pull setpoint in RUN_PULL
(R74). DESIGN CHOICE (log 30): none in every other state, where R74 gives only the 4 mA that AOn then drives. -/
def State.setpoint (s : State) (c : CompId) : Option Nat :=
  match (s.comps.get c).state, (s.comps.get c).assigned with
  | .runPush, some (sp, _) => some (s.ladderValue (s.spots.get sp).driver.step)
  | .runPush, none => none
  | .runPull, _ => some s.unit.pullSetpoint
  | _, _ => none

/-! ### Outputs (R140): each follows what its owner holds, and is off without supply -/

/-- A valve output: energised exactly while the command is OPEN (R115). -/
def State.valveOutput (s : State) (sp : SpotId) (v : Valve) : Bool :=
  s.powered && decide ((s.valve sp v).command = .toOpen)

/-- Cn.RUN by compressor state (section 4.1). -/
def CompState.runs : CompState → Bool
  | .changeoverInPlace => true
  | .starting => true
  | .runPush => true
  | .runPull => true
  | _ => false

/-- Cn.RUN (section 4.1). -/
def State.runOutput (s : State) (c : CompId) : Bool := s.powered && (s.comps.get c).state.runs

/-- Cn.DIR: energised while the commanded direction is PULL (R73). -/
def State.dirOutput (s : State) (c : CompId) : Bool := s.powered && decide ((s.comps.get c).commanded = .pull)

/-- AOn in microamperes: 4,000 plus 20 for each centibar of the setpoint (R74). DESIGN CHOICE (log 32): 4,000 without
supply too, where the compressors are idle and hold no setpoint. -/
def State.analogOutput (s : State) (c : CompId) : Nat :=
  match s.setpoint c with
  | some cbar => 4000 + 20 * cbar
  | none => 4000

/-- DO47, site clear (R140, R146). -/
def State.siteClear (s : State) : Bool := s.powered && !s.siteTrip.active

/-- DO48, bypass active (R140). -/
def State.bypassActive (s : State) : Bool := s.powered && !s.bypasses.isEmpty

/-- The owners' signals on the 48 discrete outputs (R140). -/
inductive DiscreteOutput where
  | valve (sp : SpotId) (v : Valve)
  | run (c : CompId)
  | direction (c : CompId)
  | siteClear
  | bypassActive
  deriving DecidableEq, Repr

/-- The valve at an index, in the order LA, VA, VH, DR, LH (R140). -/
def valveAt : Fin 5 → Valve
  | 0 => .la
  | 1 => .va
  | 2 => .vh
  | 3 => .dr
  | 4 => .lh

/-- The fixed assignment of DO01 to DO48, DO01 being 0 (R140): five valves to a spot, then RUN and DIR of each compressor,
site clear and bypass active. -/
def outputAt (n : Fin 48) : DiscreteOutput :=
  if h : n.val < 40 then .valve ⟨n.val / 5, by omega⟩ (valveAt ⟨n.val % 5, by omega⟩)
  else if h' : n.val < 46 then
    if n.val % 2 = 0 then .run ⟨(n.val - 40) / 2, by omega⟩ else .direction ⟨(n.val - 40) / 2, by omega⟩
  else if n.val = 46 then .siteClear
  else .bypassActive

/-- Is a discrete output energised? Each follows its owner (R140). -/
def State.discreteOutput (s : State) (n : Fin 48) : Bool :=
  match outputAt n with
  | .valve sp v => s.valveOutput sp v
  | .run c => s.runOutput c
  | .direction c => s.dirOutput c
  | .siteClear => s.siteClear
  | .bypassActive => s.bypassActive

/-! ### Vessels (chapter 3) -/

/-- The free ullage of a vessel (R56). -/
def Vessel.free (v : Vessel) : Nat := if v.stale then 0 else v.ullage - v.committed

/-- The reservation of a spot with a rank. -/
def Vessel.reservation (v : Vessel) (sp : SpotId) (k : Rank) : Option Reservation :=
  v.reservations.find? (fun r => decide (r.spot = sp) && decide (r.rank = k))

/-- The spot holds a current reservation at the vessel. -/
def Vessel.hasCurrent (v : Vessel) (sp : SpotId) : Bool := (v.reservation sp .current).isSome

/-- The spot holds a next reservation at the vessel. -/
def Vessel.hasNext (v : Vessel) (sp : SpotId) : Bool := (v.reservation sp .next).isSome

/-- The spot holds a reservation at the vessel. -/
def Vessel.hasAny (v : Vessel) (sp : SpotId) : Bool := v.reservations.any (fun r => decide (r.spot = sp))

/-- The spot has a request pending at the vessel. -/
def Vessel.hasRequest (v : Vessel) (sp : SpotId) : Bool := v.requests.any (fun r => decide (r.spot = sp))

/-- The sum of outstanding amounts of a list of reservations (R61). -/
def outstandingSum (rs : List Reservation) : Nat := (rs.map (fun r => r.outstanding)).sum

/-- The spot holds a current reservation at its destination. -/
def State.hasBlock (s : State) (sp : SpotId) : Bool :=
  match s.vesselOf sp with
  | some v => (s.vessels.get v).hasCurrent sp
  | none => false

/-- The spot holds a next reservation at its destination (R61). -/
def State.hasNext (s : State) (sp : SpotId) : Bool :=
  match s.vesselOf sp with
  | some v => (s.vessels.get v).hasNext sp
  | none => false

/-- The spot has a request pending at its destination. -/
def State.hasRequest (s : State) (sp : SpotId) : Bool :=
  match s.vesselOf sp with
  | some v => (s.vessels.get v).hasRequest sp
  | none => false

/-- The high-level state of a vessel (R70). -/
def State.highLevel (s : State) (v : VesselId) : Bool := s.reading (.highLevel v)

/-- The HIGH_LEVEL of the destination vessel of a spot reads active (R153). -/
def State.destinationHigh (s : State) (sp : SpotId) : Bool :=
  match s.vesselOf sp with
  | some v => s.highLevel v
  | none => false

/-- An open record names a product (R191). -/
def State.productInUse (s : State) (p : ProductId) : Bool :=
  s.spots.any (fun x => decide (x.record.map (fun r => r.order.product) = some p))

/-- An open record names a vessel as its destination (R191). -/
def State.vesselInUse (s : State) (v : VesselId) : Bool :=
  s.spots.any (fun x => decide (x.record.map (fun r => r.order.vessel) = some v))

end Sys2Proof.Machine
end

