-- ==== Sys2Proof/Machine/Vessels.lean ====
section
/-! DEFINITION. The vessel admission units (chapter 3): grants, consumption, release, and the amount of a request. -/

namespace Sys2Proof.Machine

/-- A grant creates a reservation and raises the committed quantity; its rank is current if the spot holds none (R61). -/
def Vessel.grant (sp : SpotId) (amount : Nat) (v : Vessel) : Vessel :=
  { v with
    reservations := v.reservations ++ [⟨sp, amount, amount, if v.hasAny sp then .next else .current⟩]
    committed := v.committed + amount }

/-- A request joins the tail of the pending list (R59). -/
def Vessel.append (sp : SpotId) (amount : Nat) (v : Vessel) : Vessel :=
  { v with requests := v.requests ++ [⟨sp, amount⟩] }

/-- A vessel grants an amount: high level inactive and the free ullage covers it (R59, R60). -/
def Vessel.fits (high : Bool) (amount : Nat) (v : Vessel) : Bool := !high && decide (amount ≤ v.free)

/-- Everything a spot holds is released: reservations deleted, C lowered by what was outstanding, the pending request
withdrawn, the gram remainder set to 0 (R67). -/
def Vessel.release (sp : SpotId) (v : Vessel) : Vessel :=
  { v with
    committed := v.committed - outstandingSum (v.reservations.filter (fun r => decide (r.spot = sp)))
    reservations := v.reservations.filter (fun r => !decide (r.spot = sp))
    requests := v.requests.filter (fun r => !decide (r.spot = sp))
    remainders := v.remainders.set sp 0 }

/-- The spot holds a reservation or a pending request (R67). DESIGN CHOICE (log 33): a gram remainder alone is nothing held.
DESIGN CHOICE (log 42): a reservation that the window of a preset stop has just run to 0 is still held, so the release of that
stop runs a grant pass. -/
def Vessel.holds (sp : SpotId) (v : Vessel) : Bool := v.hasAny sp || v.hasRequest sp

/-- Draw whole kilograms from a spot's reservations of one rank: the list after, and the kilograms left over (R63). -/
def drawRank (sp : SpotId) (k : Rank) : Nat → List Reservation → List Reservation × Nat
  | kg, [] => ([], kg)
  | kg, r :: rs =>
    if r.spot = sp ∧ r.rank = k then
      let t := drawRank sp k (kg - r.outstanding) rs
      ({ r with outstanding := r.outstanding - kg } :: t.1, t.2)
    else
      let t := drawRank sp k kg rs
      (r :: t.1, t.2)

/-- Draw whole kilograms from a spot's current reservation, then from its next one; each lowers C by as much (R63). -/
def Vessel.draw (sp : SpotId) (kg : Nat) (v : Vessel) : Vessel :=
  let c := drawRank sp .current kg v.reservations
  let n := drawRank sp .next c.2 c.1
  { v with reservations := n.1, committed := v.committed - (kg - n.2) }

/-- A window's net grams join the spot's gram remainder, and every whole kilogram taken out of it is drawn (R63). -/
def Vessel.consume (sp : SpotId) (grams : Nat) (v : Vessel) : Vessel :=
  let total := v.remainders.get sp + grams
  ({ v with remainders := v.remainders.set sp (total % 1000) } : Vessel).draw sp (total / 1000)

/-- The spot's current reservation has nothing outstanding (R64). -/
def Vessel.exhausted (sp : SpotId) (v : Vessel) : Bool :=
  match v.reservation sp .current with
  | some r => decide (r.outstanding = 0)
  | none => false

/-- Exhausted reservations of a spot leave, and a next reservation becomes current (R64). DESIGN CHOICE (log 38): a next
reservation that the same window has run to 0 leaves with the current one, and the spot then holds none. -/
def Vessel.dropExhausted (sp : SpotId) (v : Vessel) : Vessel :=
  { v with
    reservations :=
      (v.reservations.filter (fun r => !(decide (r.spot = sp) && decide (r.outstanding = 0)))).map
        (fun r => if r.spot = sp then { r with rank := .current } else r) }

/-- A TANK ULLAGE report for a vessel in service: U replaced, the age started, STALE cleared (R54). The age limit applies
from the report (R55). -/
def Vessel.report (kg limit : Nat) (v : Vessel) : Vessel :=
  { v with ullage := kg, age := some 0, ageLimit := limit, stale := false }

/-- The delivered mass of a record in kg (R58). -/
def Record.deliveredKg (r : Record) : Nat := r.netMass / 1000

/-- The amount of a block request, or none when the remaining amount of a PRESET car is 0 or less (R57, R58). -/
def requestAmount (r : Record) (outstandingCurrent : Nat) : Option Nat :=
  match r.order.mode with
  | .empty => some r.order.block
  | .preset kg =>
    let remaining := kg - r.deliveredKg - outstandingCurrent
    if remaining = 0 then none else some (min r.order.block remaining)

/-- The outstanding amount of a spot's current reservation, 0 when it holds none (R58). -/
def Vessel.currentOutstanding (sp : SpotId) (v : Vessel) : Nat :=
  match v.reservation sp .current with
  | some r => r.outstanding
  | none => 0

/-- The lookahead condition on a current reservation: outstanding at most one fifth of the granted amount (R65). -/
def Vessel.atFifth (sp : SpotId) (v : Vessel) : Bool :=
  match v.reservation sp .current with
  | some r => decide (r.outstanding * 5 ≤ r.granted)
  | none => false

/-- A spot releases everything it holds at its destination; the vessel's grant pass is separate (R67). -/
def State.releaseStorage (s : State) (sp : SpotId) : State :=
  match s.vesselOf sp with
  | some v => s.modVessel v (Vessel.release sp)
  | none => s

/-- The spot holds something at its destination (R67). -/
def State.holdsStorage (s : State) (sp : SpotId) : Bool :=
  match s.vesselOf sp with
  | some v => (s.vessels.get v).holds sp
  | none => false

/-- Consumption applies to a spot in PRESSURISING, TRANSFER, PAUSED, or AWAIT_COMPRESSOR with phase LIQUID (R63). -/
def State.consumes (s : State) (sp : SpotId) : Bool :=
  match s.stateOf sp with
  | .pressurising => true
  | .transfer => true
  | .paused _ => true
  | .awaitCompressor => s.inPhase sp .liquid
  | _ => false

/-- The preset stop test: net mass plus the lead reaches the preset (R68). -/
def presetStopMet (r : Record) (leadKg : Nat) : Bool :=
  match r.order.mode with
  | .preset kg => decide (kg * 1000 ≤ r.netMass + leadKg * 1000)
  | .empty => false

/-- The overrun of a PRESET record exceeds a tolerance in kg (R69). -/
def overrunExceeds (r : Record) (toleranceKg : Nat) : Bool :=
  match r.order.mode with
  | .preset _ => decide (toleranceKg * 1000 < r.overrun)
  | .empty => false

/-- OVERRUN has been latched for the record of a spot, the open one and its retained copy (R69). -/
def Spot.noteOverrun (p : Spot) : Spot :=
  { p with
    record := p.record.map fun r => { r with overrunLatched := true }
    retained := p.retained.map fun k => { k with record := { k.record with overrunLatched := true } } }

/-- The overrun test at a window result: OVERRUN is latched once per record, and so not again for a record that a restart
restores (R69). -/
def State.overrunTest (s : State) (sp : SpotId) : State :=
  match s.recordOf sp with
  | some r =>
    if overrunExceeds r (s.spotCfg.get sp).overrunTolerance && !r.overrunLatched then
      (s.modSpot sp Spot.noteOverrun).latchSpot sp .overrun
    else s
  | none => s

end Sys2Proof.Machine
end

