-- ==== Sys2Proof/Machine/Meter.lean ====
section
/-! DEFINITION. The meter channel (chapter 2): the window, its integrity checks, its conversion into volume and mass, the
totaliser, and the retained write. -/

namespace Sys2Proof.Machine

/-- The window's mismatch contribution, max(0, |a - b| - 1) (R33). -/
def mismatchOf (a b : Nat) : Nat := (a - b) + (b - a) - 1

/-- A silent window: this channel counts 0 and the other at least the flow-on threshold (R35). -/
def silent (this other flowOn : Nat) : Bool := decide (this = 0) && decide (flowOn ≤ other)

/-- What the integrity checks of one window leave (R33 to R37): the meter, the mismatch total, whether the pulse-fault
indication is raised at this window, and whether a channel fails over at it. -/
structure Integrity where
  meter : Meter
  mismatch : Nat
  pulseFault : Bool
  failover : Bool
  deriving DecidableEq, Repr

/-- Step 2 of R31. -/
def integrityCheck (cfg : SpotCfg) (r : Record) (m : Meter) : Integrity :=
  match m.health with
  | .both =>
    let total := min (r.mismatch + mismatchOf m.countA m.countB) Config.u32Max
    let sa := if silent m.countA m.countB cfg.flowOn then m.silentA + 1 else 0
    let sb := if silent m.countB m.countA cfg.flowOn then m.silentB + 1 else 0
    let raised := !r.pulseFault && decide (cfg.mismatchThreshold ≤ total)
    if Config.silentLimit ≤ sa then
      ⟨{ m with primary := .b, health := .aFailed, silentA := 0, silentB := 0 }, total, raised, true⟩
    else if Config.silentLimit ≤ sb then
      ⟨{ m with health := .bFailed, silentA := 0, silentB := 0 }, total, raised, true⟩
    else ⟨{ m with silentA := sa, silentB := sb }, total, raised, false⟩
  | .aFailed => ⟨m, r.mismatch, false, false⟩
  | .bFailed => ⟨m, r.mismatch, false, false⟩

/-- The window count of the primary channel (R32). -/
def Meter.count (m : Meter) : Nat :=
  match m.primary with
  | .a => m.countA
  | .b => m.countB

/-- The flow-present state after a window of count n (R38). -/
def flowAfter (cfg : SpotCfg) (n : Nat) (before : Bool) : Bool :=
  if cfg.flowOn ≤ n then true else if n < cfg.flowOff then false else before

/-- A window temperature clamped to -500...600 (R43). -/
def clampTemperature (t : Int) : Int := if t < -500 then -500 else if 600 < t then 600 else t

/-- The correction for the temperature of liquid in parts per million (R45). -/
def ctl (alpha : Nat) (t : Int) : Nat :=
  let raw : Int := 1000000 - roundDiv ((alpha : Int) * (t - 150)) 10
  if raw < 800000 then 800000 else if 1200000 < raw then 1200000 else raw.toNat

/-- The window temperature before clamping and its source (R42). A live channel without any conversion since restart gives
the free temperature (log 6). -/
def windowTemperature (hold : TempHold) (reading : Option Int) (fallback : Int) (freeValue : Int) : Int × TempSource :=
  match hold with
  | .live => (reading.getD freeValue, .live)
  | .held _ => (reading.getD freeValue, .held)
  | .substituted => (fallback, .substituted)

/-- The window temperature of a meter rests on the free value (log 6). -/
def usesFreeTemperature (hold : TempHold) (reading : Option Int) : Bool :=
  match hold with
  | .live => reading.isNone
  | .held _ => reading.isNone
  | .substituted => false

/-- The extremes of a record with one more window temperature (R47). -/
def extremesWith (e : Option (Int × Int)) (t : Int) : Option (Int × Int) :=
  match e with
  | none => some (t, t)
  | some (lo, hi) => some (min lo t, max hi t)

/-- The overrun of a PRESET record with a net mass (R47). -/
def overrunOf (m : Mode) (netMass : Nat) : Nat :=
  match m with
  | .preset kg => netMass - kg * 1000
  | .empty => 0

/-- P = V x MF x CTL (R46). -/
def scaledVolume (gross meterFactor ctlPpm : Nat) : Nat := gross * meterFactor * ctlPpm

/-- The totaliser after some kilograms, and whether it wrapped (R48, R49). -/
def totaliserAfter (total kg : Nat) : Nat × Bool :=
  (if Config.totaliserModulus ≤ total + kg then (total + kg) % Config.totaliserModulus else total + kg,
   decide (Config.totaliserModulus ≤ total + kg))

/-- A window added to a record and its meter: the outcome of steps 3 to 7 of R31. -/
structure WindowOutcome where
  record : Record
  meter : Meter
  result : WindowResult
  rolled : Bool
  usedFree : Bool
  deriving DecidableEq, Repr

/-- A VOID window (R41): its volume goes to gross void alone. -/
def voidWindow (r : Record) (m : Meter) (n gross rawRem : Nat) (flow : Bool) : WindowOutcome :=
  let result : WindowResult := ⟨n, flow, .void, gross, 0, none⟩
  { record := { r with grossVoid := min (r.grossVoid + gross) Config.u32Max, rawRemainder := rawRem }
    meter := { m with flow := flow, last := some result }
    result := result
    rolled := false
    usedFree := false }

/-- A LIQUID window (R41 to R48): standard volume and net mass with their carried remainders, the temperature notes, the
overrun and the totaliser. -/
def liquidWindow (cfg : SpotCfg) (product : ProductCfg) (reading : Option Int) (freeValue : Int) (r : Record) (m : Meter)
    (n gross rawRem : Nat) (flow : Bool) : WindowOutcome :=
  let source := windowTemperature m.hold reading product.fallback freeValue
  let t := clampTemperature source.1
  let c := ctl product.alpha t
  let p := scaledVolume gross cfg.meterFactor c
  let std := p + r.standardRemainder
  let mass := p * product.density + r.massRemainder
  let grams := mass / 10 ^ 14
  let net := min (r.netMass + grams) Config.u32Max
  let total := totaliserAfter m.totaliser ((m.totaliserGrams + grams) / 1000)
  let result : WindowResult := ⟨n, flow, .liquid, gross, grams, some t⟩
  { record :=
      { r with
        grossLiquid := min (r.grossLiquid + gross) Config.u32Max
        rawRemainder := rawRem
        standardVolume := min (r.standardVolume + std / 10 ^ 10) Config.u32Max
        standardRemainder := std % 10 ^ 10
        netMass := net
        massRemainder := mass % 10 ^ 14
        overrun := overrunOf r.order.mode net
        tempClamped := r.tempClamped || decide (t ≠ source.1)
        tempHeld := r.tempHeld || decide (source.2 = .held)
        tempSubstituted := r.tempSubstituted || decide (source.2 = .substituted)
        tempExtremes := extremesWith r.tempExtremes t }
    meter :=
      { m with
        flow := flow
        last := some result
        lastLiquid := some ⟨t, source.2, c⟩
        totaliser := total.1
        totaliserGrams := (m.totaliserGrams + grams) % 1000 }
    result := result
    rolled := total.2
    usedFree := usesFreeTemperature m.hold reading }

/-- Steps 3 to 7 of R31 on a record and a meter whose integrity has been checked. -/
def convertWindow (cfg : SpotCfg) (product : ProductCfg) (reading : Option Int) (freeValue : Int) (r : Record) (m : Meter) :
    WindowOutcome :=
  let n := m.count
  let flow := flowAfter cfg n m.flow
  let numerator := n * 1000000 + r.rawRemainder
  let gross := numerator / cfg.kFactor
  let rawRem := numerator % cfg.kFactor
  if m.vapourSeen then voidWindow r m n gross rawRem flow
  else liquidWindow cfg product reading freeValue r m n gross rawRem flow

/-- The spot part of a window close: integrity, conversion and the retained write, which are one write (R31, R47). -/
def Spot.closeWindow (r : Record) (i : Integrity) (o : WindowOutcome) (p : Spot) : Spot :=
  let record : Record :=
    { o.record with
      mismatch := i.mismatch
      failover := r.failover || i.failover
      pulseFault := r.pulseFault || i.pulseFault }
  { p with
    record := some record
    meter := o.meter
    retained := some ⟨record, o.meter.primary, o.meter.health⟩ }

/-- Latch a spot kind when a condition holds. -/
def State.latchSpotIf (s : State) (b : Bool) (sp : SpotId) (k : SpotLatch) : State :=
  if b then s.latchSpot sp k else s

/-- Steps 1 to 7 of R31 for a spot with an open record: the state, the window result and whether the pulse-fault
indication is raised. The next window is started by the caller. -/
def State.processWindow (s : State) (sp : SpotId) (r : Record) : State × WindowResult × Bool :=
  let p := s.spots.get sp
  let cfg := s.spotCfg.get sp
  let i := integrityCheck cfg r p.meter
  let o := convertWindow cfg (s.products.get r.order.product) ((s.analog.get (tempChannel sp)).reading)
    (Config.freeTemperature s.freeCount) r i.meter
  let s1 := s.modSpot sp (Spot.closeWindow r i o)
  let s2 := s1.latchSpotIf i.pulseFault sp .pulseFault
  let s3 := s2.latchSpotIf i.failover sp .channelFailover
  let s4 := s3.latchSpotIf o.rolled sp .totaliserRoll
  (if o.usedFree then { s4 with freeCount := s4.freeCount + 1 } else s4, o.result, i.pulseFault)

/-- The next window: a full 500 ms, both counts 0, vapour seen if VAPOUR_IN_LINE is active at its start (R29, R39). -/
def State.startWindow (s : State) (sp : SpotId) : State :=
  s.modSpot sp (Spot.modMeter fun m =>
    { m with
      window := some Config.windowMs
      countA := 0
      countB := 0
      vapourSeen := s.reading (.spot sp .vapourInLine) })

/-- The window run stops: both counts 0, no last result (R30, R51). DESIGN CHOICE (log 36): the primary channel, the channel
health and the flow state of the closed record stand until the next record opens. -/
def Meter.stopRun (m : Meter) : Meter :=
  { m with window := none, countA := 0, countB := 0, vapourSeen := false, last := none, lastLiquid := none }

/-- The window in progress is closed at the close of the record and converted into it (R30); the overrun test of its result
is made in whatever state the spot is (R69). -/
def State.closeLastWindow (s : State) (sp : SpotId) : State :=
  match s.recordOf sp with
  | some r => (s.processWindow sp r).1.overrunTest sp
  | none => s

/-- The record of a spot is closed and discarded: the window run stops and the retained copy goes (R7, R30). -/
def State.discardRecord (s : State) (sp : SpotId) : State :=
  s.modSpot sp fun p => { p with record := none, retained := none, meter := p.meter.stopRun }

/-- The meter channel of a record that opens (R4): a full window, both channels healthy, A primary, flow absent. -/
def Meter.opened (vapour : Bool) (m : Meter) : Meter :=
  { m with
    window := some Config.windowMs
    countA := 0
    countB := 0
    vapourSeen := vapour
    primary := .a
    health := .both
    silentA := 0
    silentB := 0
    flow := false
    last := none
    lastLiquid := none }

/-- A pulse on a channel of a running window; a count of 65,535 stays (R28). -/
def Meter.pulse (ch : PulseChannel) (m : Meter) : Meter :=
  match m.window with
  | none => m
  | some _ =>
    match ch with
    | .a => { m with countA := min (m.countA + 1) Config.u16Max }
    | .b => { m with countB := min (m.countB + 1) Config.u16Max }

end Sys2Proof.Machine
end

