-- ==== Sys2Proof/Machine/Pool.lean ====
section
/-! DEFINITION. The compressor pool (chapter 4): starting, changing over, stopping, faults, the wait queue and the arbiter's
choice. -/

namespace Sys2Proof.Machine

/-- The RUN state of a direction. -/
def Direction.runState : Direction → CompState
  | .push => .runPush
  | .pull => .runPull

/-- The direction in which a compressor runs, in RUN_PUSH and RUN_PULL (R88). -/
def CompState.runDirection : CompState → Option Direction
  | .runPush => some .push
  | .runPull => some .pull
  | _ => none

/-- A compressor in CHANGEOVER, STARTING, RUN_PUSH or RUN_PULL (R91). -/
def CompState.active : CompState → Bool
  | .changeoverFromIdle => true
  | .changeoverInPlace => true
  | .starting => true
  | .runPush => true
  | .runPull => true
  | _ => false

/-- A state in which FAULT becoming active takes the compressor to FAULT (R81). -/
def CompState.faultable : CompState → Bool
  | .outOfService => false
  | .fault => false
  | _ => true

/-- The direction the feedback proves: exactly one of the two functions active (R73). -/
def provenDirection (pushProven pullProven : Bool) : Option Direction :=
  match pushProven, pullProven with
  | true, false => some .push
  | false, true => some .pull
  | _, _ => none

/-- The direction that the feedback of a compressor proves now (R73). -/
def State.provenOf (s : State) (c : CompId) : Option Direction :=
  provenDirection (s.reading (.comp c .pushProven)) (s.reading (.comp c .pullProven))

/-- Enter STOPPING with the run-down timer; the assignment is cleared (R80). -/
def Comp.stop (cfg : CompCfg) (c : Comp) : Comp :=
  { c with state := .stopping false, assigned := none, timer := some (seconds cfg.runDown) }

/-- Enter FAULT: the timer is stopped and the assignment cleared (R81). -/
def Comp.enterFault (c : Comp) : Comp := { c with state := .fault, assigned := none, timer := none }

/-- Enter IDLE (R80, R82, R83). -/
def Comp.enterIdle (c : Comp) : Comp := { c with state := .idle, assigned := none, timer := none }

/-- Enter the RUN state of the assignment's granted direction (R77). -/
def Comp.enterRun (c : Comp) : Comp :=
  match c.assigned with
  | some (_, d) => { c with state := d.runState, timer := none }
  | none => c

/-- Enter STARTING; RUNNING active already at the entry runs at once (R77). -/
def Comp.enterStarting (cfg : CompCfg) (running : Bool) (c : Comp) : Comp :=
  let started : Comp := { c with state := .starting, timer := some (seconds cfg.runUp) }
  if running then started.enterRun else started

/-- A grant from IDLE (R75): the commanded direction is set; STARTING if the position equals the granted direction,
otherwise CHANGEOVER, which is passed through at once where the feedback proves the direction already (R76). -/
def Comp.grant (cfg : CompCfg) (running : Bool) (proven : Option Direction) (sp : SpotId) (d : Direction) (c : Comp) :
    Comp :=
  let given : Comp := { c with assigned := some (sp, d), commanded := d }
  if c.position = d then given.enterStarting cfg running
  else if proven = some d then ({ given with position := d } : Comp).enterStarting cfg running
  else { given with state := .changeoverFromIdle, timer := some (seconds cfg.changeover) }

/-- An in-place changeover from RUN_PUSH (R79). DEDUCED (log 19): where the position is PULL already at the entry, the
changeover is passed through at that event, as R76 says of the changeover from IDLE. -/
def Comp.changeOver (cfg : CompCfg) (proven : Option Direction) (c : Comp) : Comp :=
  let asked : Comp := { c with commanded := .pull, assigned := c.assigned.map (fun a => (a.1, .pull)) }
  if c.position = .pull ∨ proven = some .pull then { asked with state := .runPull, position := .pull, timer := none }
  else { asked with state := .changeoverInPlace, timer := some (seconds cfg.changeover) }

/-- The direction feedback changes (R73, R76, R79): the position takes a proven direction; a changeover whose direction it
is goes on to STARTING, or in place to RUN_PULL. -/
def Comp.directionFeedback (cfg : CompCfg) (running : Bool) (proven : Option Direction) (c : Comp) : Comp :=
  match proven with
  | none => c
  | some d =>
    let moved : Comp := { c with position := d }
    match c.state with
    | .changeoverFromIdle => if d = c.commanded then moved.enterStarting cfg running else moved
    | .changeoverInPlace => if d = .pull then moved.enterRun else moved
    | _ => moved

/-- The lowest-numbered compressor that is IDLE at a position (R86). -/
def State.idleAt (s : State) (d : Direction) : Option CompId :=
  allComps.find? (fun c => decide ((s.comps.get c).state = .idle) && decide ((s.comps.get c).position = d))

/-- The lowest-numbered IDLE compressor (R86). -/
def State.idleAny (s : State) : Option CompId :=
  allComps.find? (fun c => decide ((s.comps.get c).state = .idle))

/-- The arbiter's choice for a head that wants a direction (R86). -/
def State.choose (s : State) (d : Direction) : Option CompId :=
  match s.idleAt d with
  | some c => some c
  | none => s.idleAny

/-- Join the wait queue at the tail (R84). -/
def State.joinTail (s : State) (sp : SpotId) (d : Direction) : State :=
  { s with queue := s.queue ++ [⟨sp, d, s.clockValue⟩] }

/-- Join the wait queue at the head (R90). -/
def State.joinHead (s : State) (sp : SpotId) (d : Direction) : State :=
  { s with queue := ⟨sp, d, s.clockValue⟩ :: s.queue }

/-- Withdraw a spot's entry from the wait queue (R85). -/
def State.withdraw (s : State) (sp : SpotId) : State :=
  { s with queue := s.queue.filter (fun e => !decide (e.spot = sp)) }

/-- A compressor enters STOPPING with its run output off at once (R89). -/
def State.stopComp (s : State) (c : CompId) : State := s.modComp c (Comp.stop (s.compCfg.get c))

/-- Give a compressor to the spot of a queue entry that leaves the queue (R75, R86). -/
def State.giveComp (s : State) (c : CompId) (e : QueueEntry) (rest : List QueueEntry) : State :=
  ({ s with queue := rest } : State).modComp c
    (Comp.grant (s.compCfg.get c) (s.reading (.comp c .running)) (s.provenOf c) e.spot e.direction)

/-- Hand a running compressor over to the spot of a queue entry that leaves the queue (R88). -/
def State.handOver (s : State) (c : CompId) (e : QueueEntry) (rest : List QueueEntry) : State :=
  ({ s with queue := rest } : State).modComp c fun x => { x with assigned := some (e.spot, e.direction) }

/-- The restart state of a compressor from its service state and its inputs (R93, R73). -/
def Comp.restarted (inService running fault : Bool) (proven : Option Direction) : Comp where
  state := if !inService then .outOfService else if fault then .fault else if running then .stopping true else .idle
  position := proven.getD .push
  commanded := .push
  assigned := none
  timer := none

end Sys2Proof.Machine
end

