-- ==== Sys2Proof/Machine/Valves.lean ====
section
/-! DEFINITION. The valve supervisor (chapter 6): demands, strokes, disagreement timing, de-energise, and the list engine. -/

namespace Sys2Proof.Machine

/-- A demand on a valve (R116). `shows` says whether the valve shows the demanded action. A change of command ends the
stroke in progress and starts one toward the new command, unless the valve already shows it; a repeated command hands over
a stroke in progress, is satisfied by a valve that shows it, and otherwise starts a new stroke. -/
def ValveUnit.demand (shows : Bool) (time : Nat) (a : Action) (o : StrokeOwner) (u : ValveUnit) : ValveUnit :=
  if u.command = a then
    match u.stroke with
    | some k => { u with stroke := some { k with owner := o } }
    | none => if shows then u else { u with stroke := some ⟨a, time, o⟩, disagreement := none, fault := false }
  else
    { command := a
      stroke := if shows then none else some ⟨a, time, o⟩
      disagreement := none
      fault := false }

/-- De-energise on one valve (R126, R124): a changed command starts a CLOSE stroke owned by de-energise; a CLOSE stroke in
progress runs on; a valve already commanded CLOSE, not CLOSED and without a stroke starts one and keeps its fault
indication. -/
def ValveUnit.deEnergise (showsClosed : Bool) (time : Nat) (u : ValveUnit) : ValveUnit :=
  match u.command with
  | .toOpen =>
    { command := .toClose
      stroke := if showsClosed then none else some ⟨.toClose, time, .deEnergise⟩
      disagreement := none
      fault := false }
  | .toClose =>
    match u.stroke with
    | some k => { u with stroke := some { k with owner := .deEnergise } }
    | none => if showsClosed then u else { u with stroke := some ⟨.toClose, time, .deEnergise⟩, disagreement := none }

/-- A change of proof on one valve of a spot in service (R116, R119). `shows` says whether the valve now shows its
command: then a stroke succeeds, the disagreement timer stops and the fault indication clears; a valve that stops showing
its command outside a stroke and without a fault indication starts its disagreement timer. -/
def ValveUnit.proofChanged (shows : Bool) (time : Nat) (u : ValveUnit) : ValveUnit :=
  if shows then { u with stroke := none, disagreement := none, fault := false }
  else
    match u.stroke with
    | some _ => u
    | none => if u.fault || u.disagreement.isSome then u else { u with disagreement := some time }

/-- A change of proof on one valve of a spot out of service: nothing is timed (R114). -/
def ValveUnit.proofChangedIdle (shows : Bool) (u : ValveUnit) : ValveUnit :=
  if shows then { u with fault := false } else u

/-- A valve of a spot taken out of service: de-energised, with nothing timed (R114, R190). -/
def ValveUnit.outOfService (u : ValveUnit) : ValveUnit where
  command := .toClose
  stroke := none
  disagreement := none
  fault := u.fault && decide (u.command = .toClose)

/-- A stroke left by a list that is abandoned (R125). -/
def ValveUnit.orphan (u : ValveUnit) : ValveUnit :=
  match u.stroke with
  | some ⟨t, r, .listStep _⟩ => { u with stroke := some ⟨t, r, .abandonedList⟩ }
  | _ => u

/-- A stroke that has failed: it ends, and the fault indication is set (R117, R118). -/
def ValveUnit.failed (u : ValveUnit) : ValveUnit := { u with stroke := none, fault := true }

/-- The valve has a stroke owned by the list in progress. -/
def ValveUnit.listStroke (u : ValveUnit) : Bool :=
  match u.stroke with
  | some ⟨_, _, .listStep _⟩ => true
  | _ => false

/-- Demand an action of a valve of a spot (R115, R116). An OPEN demand on a TRIPPED spot or during a site trip leaves the
command at CLOSE; a spot out of service keeps its outputs de-energised (R114). -/
def State.demand (s : State) (sp : SpotId) (v : Valve) (a : Action) (o : StrokeOwner) : State :=
  if !(s.spotCfg.get sp).inService then s
  else if decide (a = .toOpen) && (s.siteTrip.active || decide (s.stateOf sp = .tripped)) then s
  else s.modSpot sp (Spot.modValve v (ValveUnit.demand (s.shows sp v a) (s.strokeTime sp v) a o))

/-- De-energise a spot (R126): all five commands become CLOSE at one event and a list in progress is abandoned (R125). -/
def State.deEnergise (s : State) (sp : SpotId) : State :=
  s.modSpot sp fun p =>
    { p with
      engine := .idle
      valves :=
        if (s.spotCfg.get sp).inService then
          Bank.ofFn fun i =>
            (p.valves.get i).deEnergise (s.shows sp (valveAt i) .toClose) (s.strokeTime sp (valveAt i))
        else p.valves }

/-- A spot's valves are put in service (R114): each that is not CLOSED begins a CLOSE stroke owned by de-energise, as a
repeated demand does (R116). -/
def State.valvesInService (s : State) (sp : SpotId) : State :=
  s.modSpot sp fun p =>
    { p with
      valves := Bank.ofFn fun i =>
        (p.valves.get i).demand (s.shows sp (valveAt i) .toClose) (s.strokeTime sp (valveAt i)) .toClose .deEnergise }

/-- Take a spot's valves out of service (R190). -/
def State.valvesOutOfService (s : State) (sp : SpotId) : State :=
  s.modSpot sp fun p => { p with engine := .idle, valves := p.valves.map ValveUnit.outOfService }

/-- Abandon a list in progress, leaving its strokes timed under the abandoned list (R125). -/
def State.abandonList (s : State) (sp : SpotId) : State :=
  s.modSpot sp fun p => { p with engine := .idle, valves := p.valves.map ValveUnit.orphan }

/-- Start a list from its first step (R121). The engine issues its steps when it next runs. -/
def State.startList (s : State) (sp : SpotId) (k : ListKind) (steps : List ListStep) : State :=
  s.modSpot sp fun p => { p with engine := .running ⟨k, steps, 0, false⟩ }

/-- Start the CLOSED CHECK (R124). -/
def State.startClosedCheck (s : State) (sp : SpotId) : State :=
  (s.deEnergise sp).modSpot sp fun p => { p with engine := .closedCheck }

/-- Issue steps from an index on, up to the first waited step whose valve does not show its position (R121): the state, the
number of steps issued, and whether the last of them waits. -/
def State.issueSteps (sp : SpotId) : State → Nat → List ListStep → State × Nat × Bool
  | s, i, [] => (s, i, false)
  | s, i, k :: rest =>
    let s' := s.demand sp k.valve k.action (.listStep i)
    if s'.shows sp k.valve k.action || !k.wait then State.issueSteps sp s' (i + 1) rest
    else (s', i + 1, true)

/-- What a list engine reports when it runs. -/
inductive EngineReport where
  | nothing
  | lineUpComplete
  | closeDownComplete
  deriving DecidableEq, Repr

/-- The step an engine waits on is proven, or the engine waits on none (R121). -/
def State.stepProven (s : State) (sp : SpotId) (r : ListRun) : Bool :=
  if r.waiting then
    match r.steps[r.issued - 1]? with
    | some k => s.shows sp k.valve k.action
    | none => true
  else true

/-- No stroke of the list in progress is still timed, and for a close-down no stroke on any of the five valves (R121,
R123). -/
def State.strokesDone (s : State) (sp : SpotId) (k : ListKind) : Bool :=
  match k with
  | .closeDown => !(s.spots.get sp).valves.any (fun u => u.stroke.isSome)
  | .lineUpOverride => !(s.spots.get sp).valves.any ValveUnit.listStroke
  | .lineUpConfigured => !(s.spots.get sp).valves.any ValveUnit.listStroke

/-- What the completion of a list is reported as. -/
def ListKind.report : ListKind → EngineReport
  | .lineUpOverride => .lineUpComplete
  | .lineUpConfigured => .lineUpComplete
  | .closeDown => .closeDownComplete

/-- All five valves of a spot show CLOSED (R124). -/
def State.allClosed (s : State) (sp : SpotId) : Bool := allValves.all (fun v => s.shows sp v .toClose)

/-- Run a spot's list engine as far as the proofs allow (R121, R123, R124). -/
def State.runEngine (s : State) (sp : SpotId) : State × EngineReport :=
  match (s.spots.get sp).engine with
  | .running r =>
    if s.stepProven sp r then
      let t := State.issueSteps sp s r.issued (r.steps.drop r.issued)
      if !t.2.2 && t.1.strokesDone sp r.kind then
        (t.1.modSpot sp fun p => { p with engine := .idle }, r.kind.report)
      else
        (t.1.modSpot sp fun p => { p with engine := .running { r with issued := t.2.1, waiting := t.2.2 } }, .nothing)
    else (s, .nothing)
  | .closedCheck =>
    if s.allClosed sp then (s.modSpot sp fun p => { p with engine := .idle }, .closeDownComplete) else (s, .nothing)
  | .idle => (s, .nothing)
  | .stopped _ _ => (s, .nothing)

/-- The engine goes back to a failed step of a STOPPED line-up list (R122). -/
def Engine.resumed : Engine → Engine
  | .stopped r failed => .running { r with issued := failed, waiting := false }
  | e => e

/-- The step whose stroke failed in a close-down releases the engine if it was the waited one (R123). -/
def Engine.releaseStep (failed : Nat) : Engine → Engine
  | .running r => if r.issued = failed + 1 then .running { r with waiting := false } else .running r
  | e => e

/-- A list is in progress: RUNNING, STOPPED or in the CLOSED CHECK (R127). -/
def Engine.inProgress : Engine → Bool
  | .idle => false
  | .running _ => true
  | .stopped _ _ => true
  | .closedCheck => true

/-- A change of proof reaches a valve (R114). -/
def State.proofChanged (s : State) (sp : SpotId) (v : Valve) : State :=
  let shows := s.shows sp v (s.valve sp v).command
  if (s.spotCfg.get sp).inService then
    s.modSpot sp (Spot.modValve v (ValveUnit.proofChanged shows (s.strokeTime sp v)))
  else s.modSpot sp (Spot.modValve v (ValveUnit.proofChangedIdle shows))

end Sys2Proof.Machine
end

