-- ==== Sys2Proof/Machine/Driver.lean ====
section
/-! DEFINITION. The transfer driver (chapter 5): the ladder step, the dwell, stall, void run, settling and recovery
timers. -/

namespace Sys2Proof.Machine

/-- Everything of the driver that belongs to the state it runs in is stopped or cleared (section 5.1); the step and the
LOW_YIELD indication stay. -/
def Driver.stopAll (d : Driver) : Driver where
  step := d.step
  dwell := none
  secondHalf := false
  dwellMass := 0
  slips := 0
  lowYield := d.lowYield
  pressurise := none
  stall := none
  voidRun := 0
  settle := none
  settleLimit := none
  recoveryLimit := none
  recoveryProving := none

/-- The driver of a record that opens (R4). -/
def Driver.opened (floor : Nat) (d : Driver) : Driver := { d.stopAll with step := floor, lowYield := false }

/-- A new dwell starts with a dwell in seconds (R96). -/
def Driver.startDwell (dwell : Nat) (d : Driver) : Driver :=
  { d with dwell := some (seconds dwell), secondHalf := false, dwellMass := 0, slips := 0 }

/-- The dwell and the stall timer are frozen: stopped and cleared (R99). -/
def Driver.freeze (d : Driver) : Driver :=
  { d with dwell := none, secondHalf := false, dwellMass := 0, slips := 0, stall := none }

/-- A window joins the dwell while it runs (R97). DESIGN CHOICE (log 31): the dwell mass stays at 4,294,967,295 g, the top of
the range that section 5.1 gives it. -/
def Driver.addWindow (w : WindowResult) (d : Driver) : Driver :=
  match d.dwell with
  | none => d
  | some _ =>
    match w.cls with
    | .liquid => { d with dwellMass := min (d.dwellMass + w.grams) Config.u32Max }
    | .void => if d.secondHalf then { d with slips := min (d.slips + 1) Config.u8Max } else d

/-- The yield target of a dwell in grams (R98). -/
def SpotCfg.yieldTarget (cfg : SpotCfg) : Nat := cfg.targetFlow * cfg.dwell * 1000 / 60

/-- The decision of a dwell that expires (R98): the step after, and whether LOW_YIELD is latched. -/
def dwellDecision (cfg : SpotCfg) (d : Driver) : Nat × Bool :=
  if cfg.slipThreshold < d.slips then (max cfg.floorStep (d.step - 1), false)
  else if d.dwellMass < cfg.yieldTarget then
    if d.step < 8 then (d.step + 1, false) else (d.step, !d.lowYield)
  else (d.step, false)

/-- The settle timer at a window result in SETTLING (R105): flow present stops it, flow absent starts it if stopped. -/
def Driver.settleWindow (cfg : SpotCfg) (flow : Bool) (d : Driver) : Driver :=
  if flow then { d with settle := none }
  else
    match d.settle with
    | some _ => d
    | none => { d with settle := some (seconds cfg.settleTime) }

/-- The timers of an entry to SETTLING (R105). -/
def Driver.startSettling (cfg : SpotCfg) (flow : Bool) (d : Driver) : Driver :=
  { d with
    settleLimit := some Config.settleLimitMs
    settle := if flow then none else some (seconds cfg.settleTime) }

/-- A new dwell starts if both pressure channels of the spot are out of fault (R96). -/
def State.startDwell (s : State) (sp : SpotId) : State :=
  if s.pressuresGood sp then s.modSpot sp (Spot.modDriver (Driver.startDwell (s.spotCfg.get sp).dwell)) else s

/-- A stall window (R102): LIQUID, flow absent, both channels out of fault, dp at least the stall dp. -/
def State.stallWindow (s : State) (sp : SpotId) (w : WindowResult) : Bool :=
  decide (w.cls = .liquid) && !w.flow &&
    (match s.dp sp with
     | some d => decide (((s.spotCfg.get sp).stallDp : Int) ≤ d)
     | none => false)

/-- Stall supervision at a window result in TRANSFER (R102). -/
def State.stallSupervision (s : State) (sp : SpotId) (w : WindowResult) : State :=
  if w.flow then s.modSpot sp (Spot.modDriver fun d => { d with stall := none })
  else if s.stallWindow sp w && ((s.spots.get sp).driver.stall).isNone then
    (s.modSpot sp (Spot.modDriver fun d => { d with stall := some (seconds (s.spotCfg.get sp).stallTime) })).latchSpot sp
      .flowStall
  else s

/-- The void run count after a window in TRANSFER (R104). -/
def voidRunAfter (w : WindowResult) (n : Nat) : Nat :=
  match w.cls with
  | .void => n + 1
  | .liquid => 0

/-- The result of a recovery enters the record (R109 to R112): the reading of the car pressure channel, held or latest, or
the end pressure stays as it was when there is none. -/
def State.recoveryResult (s : State) (sp : SpotId) (incomplete : Bool) : State :=
  s.modSpot sp (Spot.modRecord fun r =>
    { r with
      recoveryEnd := match (s.analog.get (carChannel sp)).reading with
        | some x => some x
        | none => r.recoveryEnd
      recoveryIncomplete := incomplete })

/-- The states in which a pressure channel entering fault latches PRESSURE_CHANNEL (R99). -/
def State.pressureWatched (s : State) (sp : SpotId) : Bool :=
  match s.stateOf sp with
  | .pressurising => true
  | .transfer => true
  | .paused _ => true
  | .settling => true
  | .recovery => true
  | .awaitCompressor => s.inPhase sp .recovery
  | _ => false

/-- A pressure channel that a spot uses enters fault (R99): PRESSURE_CHANNEL, and in TRANSFER the freeze. -/
def State.pressureFault (s : State) (sp : SpotId) : State :=
  let s1 := s.latchSpotIf (s.pressureWatched sp) sp .pressureChannel
  if s.stateOf sp = .transfer then s1.modSpot sp (Spot.modDriver Driver.freeze) else s1

/-- The car pressure is at or below the recovery target of the order (R108). -/
def State.atRecoveryTarget (s : State) (sp : SpotId) : Bool :=
  match s.recordOf sp, s.goodReading (carChannel sp) with
  | some r, some x =>
    match r.order.recoveryTarget with
    | some t => decide (x ≤ (t : Int))
    | none => false
  | _, _ => false

/-- The end cause is LIQUID_OUT and the order carries a recovery target (R5, R17, R106). -/
def Record.recoveryDue (r : Record) : Bool := decide (r.endCause = some .liquidOut) && r.order.recoveryTarget.isSome

end Sys2Proof.Machine
end

