-- ==== Sys2Proof/Machine/Spots.lean ====
section
/-! DEFINITION. The spot controller's own part of each transition (chapter 1): what a spot gives up and starts when it
enters a state. The reactions of the other blocks are set off by `Machine/Cascade.lean`. -/

namespace Sys2Proof.Machine

/-- A spot enters a state: every timer that belongs to the state left is stopped, the hold cause and the faulted valve
become absent (R6), and what COMPLETE kept is released (R23). -/
def Spot.enter (st : SpotState) (p : Spot) : Spot :=
  { p with
    state := st
    record := p.record.map fun r => { r with holdCause := none }
    completed := none
    proving := none
    ullageWait := none
    driver := p.driver.stopAll
    faultedValve := none }

/-- A spot moves to a state; at a departure from TRANSFER the transfer logic commands LH closed (R115). -/
def State.moveTo (s : State) (sp : SpotId) (st : SpotState) : State :=
  (if s.stateOf sp = .transfer then s.demand sp .lh .toClose .lh else s).modSpot sp (Spot.enter st)

/-- The record of a first entry to TRANSFER: the flag and the start timestamp (R100). -/
def Record.entered (clock : Nat) (r : Record) : Record :=
  if r.enteredTransfer then r else { r with enteredTransfer := true, startTimestamp := some clock }

/-- Entry to TRANSFER, whatever the route (R100): LH commanded open, timers stopped and counts cleared, a dwell started. -/
def State.enterTransfer (s : State) (sp : SpotId) : State :=
  (((s.moveTo sp .transfer).demand sp .lh .toOpen .lh).startDwell sp).modSpot sp
    (Spot.modRecord (Record.entered s.clockValue))

/-- The spot's own part of an entry to HELD (R14). -/
def State.holdSpot (s : State) (sp : SpotId) (cause : HoldCause) (faulted : Option Valve) : State :=
  ((s.moveTo sp .held).modSpot sp fun p =>
    { p with faultedValve := faulted, record := p.record.map fun r => { r with holdCause := some cause } }).withdraw sp

/-- The spot's own part of an entry to SETTLING (R17, R105): the end cause is set, a list in progress abandoned, the queue
entry withdrawn, the settle timing started. -/
def State.settleSpot (s : State) (sp : SpotId) (cause : EndCause) : State :=
  ((((s.abandonList sp).moveTo sp .settling).modSpot sp
    (Spot.modRecord fun r => { r with endCause := some cause })).modSpot sp fun p =>
      p.modDriver (Driver.startSettling (s.spotCfg.get sp) p.meter.flow)).withdraw sp

/-- The spot's own part of an entry to CLOSING (R22): the close-down list from its first step, or the CLOSED CHECK for a
record with end cause ABORTED that does not come from TRIPPED. -/
def State.closeSpot (s : State) (sp : SpotId) : State :=
  let aborted :=
    match s.recordOf sp with
    | some r => decide (r.endCause = some .aborted)
    | none => false
  let moved := (s.moveTo sp .closing).withdraw sp
  if aborted && !decide (s.stateOf sp = .tripped) then moved.startClosedCheck sp
  else moved.startList sp .closeDown (s.closeDown.get sp)

/-- The spot's own part of an entry to RECOVERY (R108): the time limit, and the proving timer at or below the target. -/
def State.recoverSpot (s : State) (sp : SpotId) : State :=
  (s.moveTo sp .recovery).modSpot sp (Spot.modDriver fun d =>
    { d with
      recoveryLimit := some (seconds (60 * (s.spotCfg.get sp).recoveryLimit))
      recoveryProving :=
        if s.atRecoveryTarget sp then some (seconds (s.spotCfg.get sp).recoveryProving) else none })

/-- The line-up list of a spot: the order's override when one is present, otherwise the configured list (R11). -/
def State.lineUpOf (s : State) (sp : SpotId) : ListKind × List ListStep :=
  match (s.recordOf sp).bind (fun r => r.order.lineUpOverride) with
  | some steps => (.lineUpOverride, steps)
  | none => (.lineUpConfigured, s.lineUp.get sp)

/-- The proving timer starts if all four permissives read healthy (R8). -/
def State.startProving (s : State) (sp : SpotId) : State :=
  if s.allHealthy sp then
    s.modSpot sp fun p => { p with proving := some (seconds (s.spotCfg.get sp).provingTime) }
  else s

/-- The record of a car order that is accepted (section 1.2). -/
def Record.opened (o : Order) : Record where
  order := o
  phase := .lineUp
  endCause := none
  holdCause := none
  tripCause := none
  enteredTransfer := false
  startTimestamp := none
  endTimestamp := none
  grossLiquid := 0
  grossVoid := 0
  standardVolume := 0
  netMass := 0
  rawRemainder := 0
  standardRemainder := 0
  massRemainder := 0
  overrun := 0
  mismatch := 0
  failover := false
  tempHeld := false
  tempSubstituted := false
  tempClamped := false
  tempExtremes := none
  recoveryEnd := none
  recoveryIncomplete := false
  ticketPending := false
  pulseFault := false
  overrunLatched := false

/-- A record opens (R4): the spot enters ORDERED, the meter channel and the transfer driver take their per-record state,
the proving timer starts if all four permissives read healthy. -/
def State.openRecord (s : State) (sp : SpotId) (o : Order) : State :=
  ((s.moveTo sp .ordered).modSpot sp fun p =>
    { p with
      record := some (Record.opened o)
      retained := none
      meter := p.meter.opened (s.reading (.spot sp .vapourInLine))
      driver := p.driver.opened (s.spotCfg.get sp).floorStep }).startProving sp

/-- A record closes without a ticket and the spot enters VACANT (R7): the window in progress is converted first (R30). -/
def State.vacate (s : State) (sp : SpotId) : State := ((s.closeLastWindow sp).discardRecord sp).moveTo sp .vacant

/-- The retained copy of a spot's record is written (R166). -/
def State.retainRecord (s : State) (sp : SpotId) : State :=
  s.modSpot sp fun p =>
    { p with
      retained := match p.record with
        | some r => some ⟨r, p.meter.primary, p.meter.health⟩
        | none => none }

end Sys2Proof.Machine
end

