-- ==== Sys2Proof/Machine/Tickets.lean ====
section
/-! DEFINITION. The ticket store (chapter 9): what earns a ticket, its contents, its number, its placement, and the pending
order. -/

namespace Sys2Proof.Machine

/-- A record earns a ticket (R7, R161). -/
def Record.earnsTicket (r : Record) : Bool := r.enteredTransfer || decide (0 < r.netMass)

/-- The number after a ticket number: from 999,999 back to 1 (R165). -/
def nextNumber (n : Nat) : Nat := if Config.ticketNumberMax ≤ n then 1 else n + 1

/-- The quality flags of a record at formation (R163). -/
def qualityOf (r : Record) (toleranceKg endTimestamp : Nat) : Quality where
  singleChannel := r.failover
  pulseMismatch := r.pulseFault
  tempHeld := r.tempHeld
  tempSubstituted := r.tempSubstituted
  tempClamped := r.tempClamped
  voidExcluded := decide (0 < r.grossVoid)
  recoveryIncomplete := r.recoveryIncomplete
  overrun := overrunExceeds r toleranceKg
  clockNotSet := decide (endTimestamp = 0) || decide (r.startTimestamp = some 0)

/-- The ticket formed from a record (R162, R164). -/
def formTicket (sp : SpotId) (r : Record) (number clock toleranceKg totaliser : Nat) : Ticket where
  number := number
  spot := sp
  carId := r.order.carId
  product := r.order.product
  vessel := r.order.vessel
  mode := r.order.mode
  startTimestamp := r.startTimestamp
  endTimestamp := clock
  grossLiquid := r.grossLiquid
  grossVoid := r.grossVoid
  standardVolume := r.standardVolume
  netMass := r.netMass
  overrun := r.overrun
  endCause := r.endCause
  tripCause := r.tripCause
  quality := qualityOf r toleranceKg clock
  recoveryEnd := r.recoveryEnd
  tempExtremes := r.tempExtremes
  totaliser := totaliser

/-- A ticket joins the tail of the queue, and the counter advances (R165, R166). -/
def State.addTicket (s : State) (t : Ticket) : State :=
  { s with tickets := s.tickets ++ [t], ticketCounter := nextNumber s.ticketCounter }

/-- A spot leaves the pending order; the entries behind it close up (R171). -/
def State.leavePending (s : State) (sp : SpotId) : State :=
  { s with pendingOrder := s.pendingOrder.filter (fun e => !decide (e.spot = sp)) }

/-- A spot stands in the pending order. -/
def State.inPending (s : State) (sp : SpotId) : Bool := s.pendingOrder.any (fun e => decide (e.spot = sp))

/-- A spot joins the tail of the pending order (R169). -/
def State.joinPending (s : State) (sp : SpotId) (ready : Bool) : State :=
  { s with pendingOrder := s.pendingOrder ++ [⟨sp, ready⟩] }

/-- A spot's entry of the pending order becomes ready (R170). -/
def State.markReady (s : State) (sp : SpotId) : State :=
  { s with pendingOrder := s.pendingOrder.map fun e => if e.spot = sp then { e with ready := true } else e }

/-- A spot enters COMPLETE, keeping the car identifier and the ticket number for READ SPOT (R7). -/
def State.completeSpot (s : State) (sp : SpotId) (carId : List Byte) (number : Nat) : State :=
  (s.moveTo sp .complete).modSpot sp fun p => { p with completed := some (carId, number) }

/-- The placement of a spot's ticket (R162, R169): the window in progress is converted, the ticket formed, numbered and
queued, the record closed, the spot in COMPLETE, out of the pending order, TICKET_READY latched. -/
def State.placeTicket (s : State) (sp : SpotId) : State :=
  let s1 := s.closeLastWindow sp
  match s1.recordOf sp with
  | none => s
  | some r =>
    let t := formTicket sp r s1.ticketCounter s1.clockValue (s1.spotCfg.get sp).overrunTolerance
      (s1.spots.get sp).meter.totaliser
    (((((s1.addTicket t).leavePending sp).discardRecord sp).completeSpot sp r.order.carId t.number).latchTicketReady)

/-- The queue has space (R169). -/
def State.queueHasSpace (s : State) : Bool := decide (s.tickets.length < Config.ticketCapacity)

/-- A record whose ticket cannot be placed waits (R169): the flag is set, the spot joins the tail of the pending order, and
TICKET_QUEUE_FULL is latched when the queue is full. -/
def State.awaitPlacement (s : State) (sp : SpotId) : State :=
  let s1 := ((s.modSpot sp (Spot.modRecord fun r => { r with ticketPending := true })).joinPending sp true).retainRecord sp
  if s.queueHasSpace then s1 else s1.latchTicketQueueFull

/-- The end timestamp of a spot's record: the clock when its close-down completes (R22, R164). -/
def State.stampEnd (s : State) (sp : SpotId) : State :=
  s.modSpot sp (Spot.modRecord fun r => { r with endTimestamp := some s.clockValue })

/-- The outcome of a record whose close-down completes outside the pending order (R22, R169). DESIGN CHOICE (log 29): whether
a ticket is due (R161) is decided from the record as it stands, before the window in progress is converted (R30). -/
def State.decideOutcome (s : State) (sp : SpotId) : State :=
  match s.recordOf sp with
  | none => s
  | some r =>
    if r.earnsTicket then
      let s1 := s.stampEnd sp
      if s.pendingOrder.isEmpty && s.queueHasSpace then s1.placeTicket sp else s1.awaitPlacement sp
    else s.vacate sp

/-- The spot at the head of the pending order whose ticket can be placed now (R170). -/
def State.placeable (s : State) : Option SpotId :=
  match s.pendingOrder with
  | e :: _ => if e.ready && s.queueHasSpace then some e.spot else none
  | [] => none

end Sys2Proof.Machine
end

