-- ==== Sys2Proof/Machine/Trips.lean ====
section
/-! DEFINITION. The trip logic (chapter 8): the snapshot, the trip of one spot with every owner's part in it, the site trip's
cause set and its activation. -/

namespace Sys2Proof.Machine

/-- The snapshot of a spot as it stands before a trip (R158). -/
def State.takeSnapshot (s : State) (sp : SpotId) (cause : TripCause) : Snapshot :=
  let p := s.spots.get sp
  { cause := cause
    state := p.state
    holdCause := p.record.bind (fun r => r.holdCause)
    phase := match p.record with
      | some r => r.phase
      | none => .lineUp
    netMass := match p.record with
      | some r => r.netMass
      | none => 0
    grossVoid := match p.record with
      | some r => r.grossVoid
      | none => 0
    carPressure := s.sample (carChannel sp)
    vesselPressure := match s.vesselOf sp with
      | some v => s.sample (vesselChannel v)
      | none => ⟨none, false⟩
    temperature := s.sample (tempChannel sp)
    ladderStep := p.driver.step
    compressor := s.compOf sp
    time := s.clockValue
    laterTrips := 0 }

/-- The slot after an entry to TRIPPED (R158): an empty slot takes the snapshot, a full one counts the later trip. -/
def slotAfter (slot : Option Snapshot) (new : Snapshot) : Option Snapshot :=
  match slot with
  | none => some new
  | some old => some { old with laterTrips := min (old.laterTrips + 1) Config.u8Max }

/-- The record of a spot that trips (R154): the trip cause replaced, the end cause TRIPPED if none is present, the ticket
pending flag cleared (R171). -/
def Record.tripped (cause : TripCause) (r : Record) : Record :=
  { r with
    tripCause := some cause
    endCause := some (r.endCause.getD .tripped)
    ticketPending := false }

/-- The pool's part of a trip: an assigned compressor is released immediately (R89, R154). -/
def State.stopCompOf (s : State) (sp : SpotId) : State :=
  match s.compOf sp with
  | some c => s.stopComp c
  | none => s

/-- A spot enters TRIPPED with every owner's part taken at that event (R154): snapshot, trip cause, TRIP; outputs
de-energised and the list abandoned; compressor released immediately and the queue entry withdrawn; storage released;
timers stopped; out of the pending order. The grant pass, the arbiter and the ticket store's serving follow as reactions. -/
def State.tripSpot (s : State) (sp : SpotId) (cause : TripCause) : State :=
  let wasPending := s.inPending sp
  let s1 := s.modSpot sp fun p => { p with snapshot := slotAfter p.snapshot (s.takeSnapshot sp cause) }
  let s2 := (s1.modSpot sp (Spot.modRecord (Record.tripped cause))).latchSpot sp .trip
  let s3 := ((s2.moveTo sp .tripped).deEnergise sp).stopCompOf sp
  let s4 := ((s3.withdraw sp).releaseStorage sp).leavePending sp
  if wasPending then s4.retainRecord sp else s4

/-- The held conditions that trip a spot at its entry to the trippable states (R153). -/
def State.entryTripCause (s : State) (sp : SpotId) : Option TripCause :=
  if s.reading (.spot sp .spotEsd) then some .spotEsd
  else if s.destinationHigh sp then some .vesselHigh
  else none

/-- The causes of a site trip (section 8.1). -/
inductive SiteCause where
  | esd (i : Fin 4)
  | gasVote
  | request (l : Link)
  deriving DecidableEq, Repr

/-- A cause joins the cause set (R146). -/
def SiteTripState.add (c : SiteCause) (t : SiteTripState) : SiteTripState :=
  match c with
  | .esd i => { t with esd := t.esd.set i true }
  | .gasVote => { t with gasVote := true }
  | .request .supervisory => { t with requestSupervisory := true }
  | .request .panel => { t with requestPanel := true }

/-- A spot that the site trip reaches: not in VACANT, COMPLETE or TRIPPED (R150). -/
def SpotState.siteTrippable : SpotState → Bool
  | .vacant => false
  | .complete => false
  | .tripped => false
  | _ => true

/-- The trip of one spot by the site trip, if it reaches the spot (R150). -/
def State.siteTripSpot (s : State) (sp : SpotId) : State :=
  if (s.stateOf sp).siteTrippable then s.tripSpot sp .site else s

/-- The pool's part of the site trip: every running compressor is released immediately and the queue emptied (R91). -/
def State.siteTripPool (s : State) : State :=
  let stopped := allComps.foldl (fun s c => if (s.comps.get c).state.active then s.stopComp c else s) s
  { stopped with queue := [] }

/-- The site trip becomes active, or gains a cause (R146, R150): SITE_TRIP is latched; at the activation every spot it
reaches trips, all 40 valve outputs drop, the pool stops. -/
def State.takeSiteCause (s : State) (c : SiteCause) : State :=
  let s1 := ({ s with siteTrip := { s.siteTrip.add c with active := true } } : State).latchSiteTrip
  if s.siteTrip.active then s1
  else (allSpots.foldl State.deEnergise (allSpots.foldl State.siteTripSpot s1)).siteTripPool

/-- The gas count is at or above the vote (R148). -/
def State.gasVoteMet (s : State) : Bool := decide (s.unit.gasVote ≤ s.gasCount)

/-- The activation of a GAS function is a cause (R148): the count rises to the vote at it, or stands above the vote without
GAS_VOTE in the cause set of an active trip. DESIGN CHOICE (log 35): where one CONFIGURE moves an active line from one GAS
function to another, the fall counts before the rise, so a count that stays at the vote rises to it again. -/
def State.gasVoteReached (s : State) : Bool :=
  s.gasVoteMet && (decide (s.gasCount ≤ s.unit.gasVote) || !(s.siteTrip.active && s.siteTrip.gasVote))

end Sys2Proof.Machine
end

