-- ==== Sys2Proof/Machine/Cascade.lean ====
section
/-! DEFINITION. How one step runs through the blocks: the reactions that a change in one block sets off in another, and the
loop that takes them one after another until none is left.

A step of the controller is whole and indivisible, but inside it a released compressor goes to the next spot, whose grant
asks a vessel for a block, whose grant may open a valve, and so on. Each function here takes one such reaction: it changes
the state and names the reactions that follow, which are taken next, before those already waiting (so that an effect is
whole before the next begins). -/

namespace Sys2Proof.Machine

/-- The reactions. -/
inductive Reaction where
  /-- a function's reading has changed to the given value (R135) -/
  | functionChanged (f : FieldFn) (active : Bool)
  /-- the arbiter acts (R86) -/
  | arbiter
  /-- a compressor has been granted or handed over to a spot (R13, R87) -/
  | grantReached (sp : SpotId)
  /-- a compressor has entered RUN_PUSH or RUN_PULL, or a spot has been handed a running one (R78, R88) -/
  | runReached (c : CompId)
  /-- a compressor enters FAULT (R81) -/
  | compressorFault (c : CompId)
  /-- a spot releases its compressor, normally or immediately (R88, R89) -/
  | releaseCompressor (sp : SpotId) (immediate : Bool)
  /-- a spot releases everything it holds at its destination (R67) -/
  | releaseStorage (sp : SpotId)
  /-- a vessel runs its grant pass (R60) -/
  | grantPass (v : VesselId)
  /-- a block grant reaches a spot (R62) -/
  | blockGranted (sp : SpotId)
  /-- a spot without a block and without a request asks for one (R57) -/
  | askFirst (sp : SpotId)
  /-- the lookahead test (R65) -/
  | lookahead (sp : SpotId)
  /-- the ullage wait starts if it is due (R66) -/
  | startWait (sp : SpotId)
  /-- the conditions of the entry to TRANSFER are tested (R100) -/
  | transferTest (sp : SpotId)
  /-- the standing car pressure is tested (R107) -/
  | overpressureTest (sp : SpotId)
  /-- the reading of a good car pressure conversion acts on a recovery (R109, R111) -/
  | recoveryReading (sp : SpotId)
  /-- a dwell starts anew after a freeze (R99) -/
  | resumeDwell (sp : SpotId)
  /-- the list engine of a spot runs on (R121) -/
  | engineRun (sp : SpotId)
  /-- the pending order is served (R170) -/
  | serveTickets
  /-- COMPLETE is left when all four permissives read unhealthy (R23) -/
  | departureTest (sp : SpotId)
  /-- a spot trip cause reaches a spot (R153) -/
  | spotTrip (sp : SpotId) (cause : TripCause)
  /-- a site trip cause is taken (R146) -/
  | siteCause (c : SiteCause)
  /-- a window result reaches the vessel admission unit (R63) -/
  | windowToVessel (sp : SpotId) (w : WindowResult)
  /-- the overrun test of a window result (R69) -/
  | overrunTest (sp : SpotId)
  /-- a window result reaches the transfer driver (R97, R102, R104, R105) -/
  | windowToDriver (sp : SpotId) (w : WindowResult)
  /-- the pulse-fault indication reaches the spot controller (R34) -/
  | pulseFault (sp : SpotId)
  deriving DecidableEq, Repr

/-- What a reaction leaves: the state and the reactions that follow. -/
abbrev Reacted := State × List Reaction

/-! ### Entries that several reactions share -/

/-- Entry to HELD (R14): the spot's own part, then the compressor and the storage are given up. -/
def State.enterHeld (s : State) (sp : SpotId) (cause : HoldCause) (faulted : Option Valve) : Reacted :=
  (s.holdSpot sp cause faulted, [.releaseCompressor sp false, .releaseStorage sp, .overpressureTest sp])

/-- Entry to SETTLING (R17): storage is released, and the compressor too unless a recovery is due. -/
def State.enterSettling (s : State) (sp : SpotId) (cause : EndCause) : Reacted :=
  let keeps : Bool :=
    match s.recordOf sp with
    | some r => decide (cause = .liquidOut) && r.order.recoveryTarget.isSome
    | none => false
  (s.settleSpot sp cause,
    [.releaseStorage sp] ++ (if keeps then [] else [.releaseCompressor sp false]) ++ [.overpressureTest sp])

/-- Entry to CLOSING (R22): what the spot still holds is released, and the close-down begins. -/
def State.enterClosing (s : State) (sp : SpotId) (immediate : Bool) : Reacted :=
  (s.closeSpot sp, [.releaseStorage sp, .releaseCompressor sp immediate, .engineRun sp])

/-- Entry to RECOVERY (R108); a car pressure channel in fault at the entry ends it at once (R110). DESIGN CHOICE (log 43):
PRESSURE_CHANNEL is latched at that entry as R110 says, also where the start of the same fault latched it before (R99) and a
link partner has cleared it since. -/
def State.enterRecovery (s : State) (sp : SpotId) : Reacted :=
  let s1 := s.recoverSpot sp
  if (s.analog.get (carChannel sp)).fault then
    ((s1.latchSpot sp .pressureChannel).recoveryResult sp true).enterClosing sp false
  else (s1, [.overpressureTest sp])

/-- A spot asks for a compressor: AWAIT_COMPRESSOR, the tail of the queue, and the arbiter acts (R12, R16, R62, R84). -/
def State.awaitComp (s : State) (sp : SpotId) (d : Direction) : Reacted :=
  ((s.moveTo sp .awaitCompressor).joinTail sp d, [.arbiter])

/-- A request with its amount reaches the vessel: granted at once or appended (R59). -/
def State.requestBlock (s : State) (sp : SpotId) : Reacted :=
  match s.recordOf sp with
  | none => (s, [])
  | some r =>
    let v := r.order.vessel
    match requestAmount r ((s.vessels.get v).currentOutstanding sp) with
    | none => (s, [])
    | some amount =>
      if (s.vessels.get v).requests.isEmpty && (s.vessels.get v).fits (s.highLevel v) amount then
        (s.modVessel v (Vessel.grant sp amount), [.blockGranted sp])
      else (s.modVessel v (Vessel.append sp amount), [])

/-- The ullage wait is over (R66): the compressor is released; a spot in PRESSURISING enters PAUSED (ULLAGE). -/
def State.ullageWaitOver (s : State) (sp : SpotId) : Reacted :=
  match s.stateOf sp with
  | .pressurising =>
    (s.moveTo sp (.paused .ullage), [.releaseCompressor sp false, .overpressureTest sp])
  | .paused .ullage =>
    (s.modSpot sp fun p => { p with ullageWait := none }, [.releaseCompressor sp false])
  | _ => (s, [])

/-- The end of settling (R106). -/
def State.endSettling (s : State) (sp : SpotId) : Reacted :=
  match s.recordOf sp with
  | none => (s, [])
  | some r =>
    if r.recoveryDue then
      let s1 := s.modSpot sp (Spot.modRecord fun r => { r with phase := .recovery })
      match s.compOf sp with
      | some c => (s1.modComp c (Comp.changeOver (s.compCfg.get c) (s.provenOf c))).enterRecovery sp
      | none => s1.awaitComp sp .pull
    else s.enterClosing sp false

/-- A recovery ends with a result and the spot enters CLOSING (R109 to R111). -/
def State.endRecovery (s : State) (sp : SpotId) (incomplete immediate : Bool) : Reacted :=
  (s.recoveryResult sp incomplete).enterClosing sp immediate

/-! ### One function for each reaction -/

/-- R137, R8, R23, R153: a permissive of a spot is gained or lost. -/
def State.permissiveChanged (s : State) (sp : SpotId) (healthy : Bool) : Reacted :=
  if healthy then
    (if s.stateOf sp = .ordered then s.startProving sp else s, [])
  else
    match s.stateOf sp with
    | .ordered => (s.modSpot sp fun p => { p with proving := none }, [])
    | .complete => (s, [.departureTest sp])
    | _ => (s, [.spotTrip sp .permissive])

/-- R39: VAPOUR_IN_LINE becoming active marks the window in progress. -/
def State.vapourSeen (s : State) (sp : SpotId) (active : Bool) : State :=
  if active && ((s.spots.get sp).meter.window).isSome then
    s.modSpot sp (Spot.modMeter fun m => { m with vapourSeen := true })
  else s

/-- A function of a spot has changed. -/
def State.spotFunctionChanged (s : State) (sp : SpotId) (f : SpotFn) (active : Bool) : Reacted :=
  match f with
  | .earth => s.permissiveChanged sp active
  | .armLiq => s.permissiveChanged sp active
  | .armVap => s.permissiveChanged sp active
  | .chock => s.permissiveChanged sp active
  | .vapourInLine => (s.vapourSeen sp active, [])
  | .spotEsd => (s, if active then [.spotTrip sp .spotEsd] else [])
  | .openProven v => (s.proofChanged sp v, [.engineRun sp])
  | .closedProven v => (s.proofChanged sp v, [.engineRun sp])

/-- R77, R78, R79, R93: RUNNING of a compressor has changed. -/
def State.runningChanged (s : State) (c : CompId) (active : Bool) : Reacted :=
  match (s.comps.get c).state, active with
  | .starting, true => (s.modComp c Comp.enterRun, [.runReached c])
  | .runPush, false => (s, [.compressorFault c])
  | .runPull, false => (s, [.compressorFault c])
  | .changeoverInPlace, false => (s, [.compressorFault c])
  | .stopping true, false => (s.modComp c Comp.enterIdle, [.arbiter])
  | _, _ => (s, [])

/-- R73, R76, R79: the direction feedback of a compressor proves a direction, or none. -/
def State.directionProven (s : State) (c : CompId) (proven : Option Direction) : Reacted :=
  let s1 := s.modComp c (Comp.directionFeedback (s.compCfg.get c) (s.reading (.comp c .running)) proven)
  let ran := (s.comps.get c).state.runDirection.isNone && (s1.comps.get c).state.runDirection.isSome
  (s1, if ran then [.runReached c] else [])

/-- R73: the direction feedback of a compressor has changed. -/
def State.directionChanged (s : State) (c : CompId) : Reacted := s.directionProven c (s.provenOf c)

/-- A function of a compressor has changed. -/
def State.compFunctionChanged (s : State) (c : CompId) (f : CompFn) (active : Bool) : Reacted :=
  match f with
  | .running => s.runningChanged c active
  | .pushProven => s.directionChanged c
  | .pullProven => s.directionChanged c
  | .fault => (s, if active && (s.comps.get c).state.faultable then [.compressorFault c] else [])

/-- R70, R153: HIGH_LEVEL of a vessel has changed. DESIGN CHOICE (log 2): the spots it reaches trip in spot order, each trip
with all that follows it (the ticket store's serving, a grant pass) before the next. -/
def State.highLevelChanged (s : State) (v : VesselId) (active : Bool) : Reacted :=
  if active then
    (s.latchVesselHigh v,
      (allSpots.filter (fun sp => decide (s.vesselOf sp = some v))).map (fun sp => .spotTrip sp .vesselHigh))
  else (s, [.grantPass v])

/-- R135: a change of a function's reading reaches its user. -/
def State.reactFunction (s : State) (f : FieldFn) (active : Bool) : Reacted :=
  match f with
  | .spot sp g => s.spotFunctionChanged sp g active
  | .comp c g => s.compFunctionChanged c g active
  | .esd i => (s, if active then [.siteCause (.esd i)] else [])
  | .gas _ => (s, if active && s.gasVoteReached then [.siteCause .gasVote] else [])
  | .highLevel v => s.highLevelChanged v active

/-- R86: the arbiter serves the head of the queue, and goes on to the new head. -/
def State.reactArbiter (s : State) : Reacted :=
  if s.siteTrip.active then (s, [])
  else
    match s.queue with
    | [] => (s, [])
    | e :: rest =>
      match s.choose e.direction with
      | none => (s, [])
      | some c =>
        let s1 := s.giveComp c e rest
        (s1, [.grantReached e.spot] ++
          (if (s1.comps.get c).state.runDirection.isSome then [.runReached c] else []) ++ [.arbiter])

/-- R13, R87, R95: a compressor grant reaches a spot. -/
def State.reactGrant (s : State) (sp : SpotId) : Reacted :=
  let s1 := s.modSpot sp (Spot.modDriver fun d => { d with step := (s.spotCfg.get sp).floorStep })
  match s.stateOf sp with
  | .awaitCompressor =>
    if s.inPhase sp .liquid then
      ((s1.moveTo sp .pressurising).modSpot sp (Spot.modDriver fun d =>
          { d with pressurise := some (seconds (s.spotCfg.get sp).pressuriseLimit) }),
        [.overpressureTest sp, .askFirst sp, .startWait sp, .transferTest sp])
    else (s1, [])
  | .paused .compressor => (s1, [.transferTest sp])
  | _ => (s1, [])

/-- R78, R88: the entry to RUN_PUSH or RUN_PULL is reported to the holder. -/
def State.reactRun (s : State) (c : CompId) : Reacted :=
  match (s.comps.get c).assigned with
  | none => (s, [])
  | some (sp, _) =>
    match (s.comps.get c).state with
    | .runPush => (s, [.transferTest sp])
    | .runPull =>
      if s.stateOf sp = .awaitCompressor ∧ s.inPhase sp .recovery = true then s.enterRecovery sp else (s, [])
    | _ => (s, [])

/-- R90: what becomes of a spot that loses its compressor to a fault. -/
def State.loseComp (s : State) (sp : SpotId) : Reacted :=
  match s.stateOf sp with
  | .pressurising => ((s.moveTo sp .awaitCompressor).joinHead sp .push, [.arbiter])
  | .transfer => ((s.moveTo sp (.paused .compressor)).joinHead sp .push, [.arbiter, .overpressureTest sp])
  | .paused .ullage => ((s.moveTo sp (.paused .compressor)).joinHead sp .push, [.arbiter])
  | .paused .compressor => (s.joinHead sp .push, [.arbiter])
  | .awaitCompressor => (s.joinHead sp (if s.inPhase sp .recovery then .pull else .push), [.arbiter])
  | .recovery => ((s.moveTo sp .awaitCompressor).joinHead sp .pull, [.arbiter])
  | _ => (s, [])

/-- R81: a compressor enters FAULT. -/
def State.reactCompFault (s : State) (c : CompId) : Reacted :=
  let s1 := (s.modComp c Comp.enterFault).latchCompFault c
  match (s.comps.get c).assigned with
  | some (sp, _) => s1.loseComp sp
  | none => (s1, [])

/-- R88, R89: a spot releases its compressor. A normal release in a RUN state hands over to a head that wants the same
direction; every other release enters STOPPING. The arbiter then acts. -/
def State.reactRelease (s : State) (sp : SpotId) (immediate : Bool) : Reacted :=
  match s.compOf sp with
  | none => (s, [])
  | some c =>
    match s.queue with
    | e :: rest =>
      if !immediate && decide ((s.comps.get c).state.runDirection = some e.direction) then
        (s.handOver c e rest, [.grantReached e.spot, .runReached c, .arbiter])
      else (s.stopComp c, [.arbiter])
    | [] => (s.stopComp c, [.arbiter])

/-- R67: a spot gives back what it holds; the grant pass runs if it held anything. DESIGN CHOICE (log 33): a gram remainder
alone is nothing held, so it is set to 0 and no grant pass runs. -/
def State.reactReleaseStorage (s : State) (sp : SpotId) : Reacted :=
  match s.vesselOf sp with
  | none => (s, [])
  | some v => (s.releaseStorage sp, if s.holdsStorage sp then [.grantPass v] else [])

/-- R60: the grant pass looks at the head of the pending list, grants it if it fits, and goes on. -/
def State.reactGrantPass (s : State) (v : VesselId) : Reacted :=
  match (s.vessels.get v).requests with
  | [] => (s, [])
  | q :: rest =>
    if (s.vessels.get v).fits (s.highLevel v) q.amount then
      (s.modVessel v (fun x => ({ x with requests := rest } : Vessel).grant q.spot q.amount),
        [.blockGranted q.spot, .grantPass v])
    else (s, [])

/-- R62, R100: a block grant reaches a spot. In PAUSED (COMPRESSOR) only a grant that gives the spot a current reservation is
an event of the test for TRANSFER; a grant that gives it a next one changes nothing. -/
def State.reactBlockGranted (s : State) (sp : SpotId) : Reacted :=
  match s.stateOf sp with
  | .pressurising => (s.modSpot sp fun p => { p with ullageWait := none }, [.transferTest sp])
  | .paused .ullage =>
    match s.compOf sp with
    | none => s.awaitComp sp .push
    | some _ => if s.holdsRunPush sp then (s.enterTransfer sp, [.overpressureTest sp]) else (s, [])
  | .paused .compressor => (s, if s.hasNext sp then [] else [.transferTest sp])
  | _ => (s, [])

/-- R57: a spot that holds no current block and has no request pending asks for one. -/
def State.reactAskFirst (s : State) (sp : SpotId) : Reacted :=
  match s.stateOf sp with
  | .pressurising => if !s.hasBlock sp && !s.hasRequest sp then s.requestBlock sp else (s, [])
  | .paused _ => if !s.hasBlock sp && !s.hasRequest sp then s.requestBlock sp else (s, [])
  | .awaitCompressor =>
    if s.inPhase sp .liquid && !s.hasBlock sp && !s.hasRequest sp then s.requestBlock sp else (s, [])
  | _ => (s, [])

/-- R65: the lookahead test of a spot in TRANSFER. -/
def State.reactLookahead (s : State) (sp : SpotId) : Reacted :=
  match s.stateOf sp, s.vesselOf sp with
  | .transfer, some v =>
    let x := s.vessels.get v
    if x.atFifth sp && !x.hasNext sp && !x.hasRequest sp then s.requestBlock sp else (s, [])
  | _, _ => (s, [])

/-- R66: the ullage wait is due for a spot that holds a compressor: in PAUSED (ULLAGE), or in PRESSURISING without a
current block but with a request pending. -/
def State.waitDue (s : State) (sp : SpotId) : Bool :=
  (s.compOf sp).isSome && ((s.spots.get sp).ullageWait).isNone &&
    (match s.stateOf sp with
     | .pressurising => !s.hasBlock sp && s.hasRequest sp
     | .paused .ullage => true
     | _ => false)

/-- R66: the ullage wait starts; with a limit of 0 it is over at that event. -/
def State.reactStartWait (s : State) (sp : SpotId) : Reacted :=
  if s.waitDue sp then
    if (s.spotCfg.get sp).ullageWaitLimit = 0 then s.ullageWaitOver sp
    else (s.modSpot sp fun p => { p with ullageWait := some (seconds (s.spotCfg.get sp).ullageWaitLimit) }, [])
  else (s, [])

/-- R100: the three conditions of the entry to TRANSFER. -/
def State.transferReady (s : State) (sp : SpotId) : Bool :=
  s.holdsRunPush sp && s.hasBlock sp &&
    (match s.dp sp with
     | some d => decide ((s.ladderValue (s.spots.get sp).driver.step : Int) ≤ d)
     | none => false)

/-- R100: a spot in PRESSURISING or PAUSED (COMPRESSOR) enters TRANSFER when the three conditions hold. -/
def State.reactTransferTest (s : State) (sp : SpotId) : Reacted :=
  match s.stateOf sp with
  | .pressurising => if s.transferReady sp then (s.enterTransfer sp, [.overpressureTest sp]) else (s, [])
  | .paused .compressor => if s.transferReady sp then (s.enterTransfer sp, [.overpressureTest sp]) else (s, [])
  | _ => (s, [])

/-- R107: a car overpressure stands at a spot in one of the tested states. -/
def State.overpressure (s : State) (sp : SpotId) : Bool :=
  (s.stateOf sp).overpressureTested &&
    (match s.goodReading (carChannel sp) with
     | some x => decide (((s.spotCfg.get sp).carMaximum : Int) ≤ x)
     | none => false)

/-- R107: the standing car pressure is tested. -/
def State.reactOverpressure (s : State) (sp : SpotId) : Reacted :=
  (s, if s.overpressure sp then [.spotTrip sp .carOverpressure] else [])

/-- R109, R111: a good car pressure conversion in RECOVERY. -/
def State.reactRecoveryReading (s : State) (sp : SpotId) : Reacted :=
  match s.stateOf sp, s.goodReading (carChannel sp) with
  | .recovery, some x =>
    if x ≤ ((s.spotCfg.get sp).vacuumGuard : Int) then s.endRecovery sp false true
    else if s.atRecoveryTarget sp then
      (if ((s.spots.get sp).driver.recoveryProving).isSome then s
        else s.modSpot sp (Spot.modDriver fun d =>
          { d with recoveryProving := some (seconds (s.spotCfg.get sp).recoveryProving) }), [])
    else (s.modSpot sp (Spot.modDriver fun d => { d with recoveryProving := none }), [])
  | _, _ => (s, [])

/-- R99: a new dwell starts when both channels are again out of fault. -/
def State.reactResumeDwell (s : State) (sp : SpotId) : Reacted :=
  (if s.stateOf sp = .transfer then s.startDwell sp else s, [])

/-- R22, R164, R169, R170: the close-down of a spot in CLOSING completes. A record that already waits in the pending order (one
restored at a restart, R194) takes its end timestamp now, in its retained copy too. -/
def State.closeDownComplete (s : State) (sp : SpotId) : Reacted :=
  if s.stateOf sp = .closing then
    if s.inPending sp then (((s.markReady sp).stampEnd sp).retainRecord sp, [.serveTickets])
    else (s.decideOutcome sp, [.departureTest sp])
  else (s, [])

/-- R11: the line-up list of a spot in LINING_UP completes. -/
def State.lineUpComplete (s : State) (sp : SpotId) : Reacted :=
  (if s.stateOf sp = .liningUp then s.moveTo sp .ready else s, [])

/-- R121: the list engine runs on, and its report reaches the spot controller. -/
def State.reactEngine (s : State) (sp : SpotId) : Reacted :=
  let t := s.runEngine sp
  match t.2 with
  | .nothing => (t.1, [])
  | .lineUpComplete => t.1.lineUpComplete sp
  | .closeDownComplete => t.1.closeDownComplete sp

/-- R170: the head of the pending order is placed if it is ready and the queue has space; then the new head is looked at. -/
def State.reactServe (s : State) : Reacted :=
  match s.placeable with
  | some sp => (s.placeTicket sp, [.departureTest sp, .serveTickets])
  | none => (s, [])

/-- R23: a spot in COMPLETE whose four permissives read unhealthy enters VACANT. -/
def State.reactDeparture (s : State) (sp : SpotId) : Reacted :=
  (if s.stateOf sp = .complete ∧ s.allUnhealthy sp = true then s.moveTo sp .vacant else s, [])

/-- The reactions that follow a spot's trip, from what the spot held before it (R60, R89, R171); a gram remainder alone is
nothing held (log 33). -/
def State.afterTrip (s : State) (sp : SpotId) : List Reaction :=
  (if (s.compOf sp).isSome then [.arbiter] else []) ++
    (match s.vesselOf sp with
     | some v => if s.holdsStorage sp then [.grantPass v] else []
     | none => []) ++
    (if s.inPending sp then [.serveTickets] else [])

/-- R153: a spot trip cause trips a spot in a trippable state. -/
def State.reactSpotTrip (s : State) (sp : SpotId) (cause : TripCause) : Reacted :=
  if (s.stateOf sp).trippable then (s.tripSpot sp cause, s.afterTrip sp) else (s, [])

/-- R146, R150: a site trip cause is taken. At the activation every vessel's grant pass, the ticket store's serving and the
arbiter find nothing to do. -/
def State.reactSiteCause (s : State) (c : SiteCause) : Reacted :=
  (s.takeSiteCause c,
    if s.siteTrip.active then [] else allVessels.map .grantPass ++ [.serveTickets, .arbiter])

/-- R64: what a spot does whose current block is exhausted with no next one. -/
def State.blockExhausted (s : State) (sp : SpotId) : Reacted :=
  match s.stateOf sp with
  | .transfer => (s.moveTo sp (.paused .ullage), [.startWait sp, .askFirst sp, .overpressureTest sp])
  | .pressurising => (s, [.askFirst sp, .startWait sp])
  | .paused .compressor => (s, [.askFirst sp])
  | .awaitCompressor => (s, [.askFirst sp])
  | _ => (s, [])

/-- R63: consumption by a window. -/
def State.consumeWindow (s : State) (sp : SpotId) (w : WindowResult) : State :=
  match s.vesselOf sp with
  | some v =>
    if s.consumes sp && decide (w.cls = .liquid) then s.modVessel v (Vessel.consume sp w.grams) else s
  | none => s

/-- R68: the preset stop test of a spot in TRANSFER. -/
def State.presetStop (s : State) (sp : SpotId) : Bool :=
  decide (s.stateOf sp = .transfer) &&
    (match s.recordOf sp with
     | some r => presetStopMet r (s.spotCfg.get sp).presetLead
     | none => false)

/-- R64: exhaustion after consumption. -/
def State.exhaustion (s : State) (sp : SpotId) : Reacted :=
  match s.vesselOf sp with
  | none => (s, [])
  | some v =>
    if s.consumes sp && (s.vessels.get v).exhausted sp then
      let s1 := s.modVessel v (Vessel.dropExhausted sp)
      if (s1.vessels.get v).hasAny sp then (s1, []) else s1.blockExhausted sp
    else (s, [])

/-- R63: a window result at the vessel admission unit, in the order consumption, preset stop, exhaustion, lookahead,
overrun. -/
def State.reactWindowVessel (s : State) (sp : SpotId) (w : WindowResult) : Reacted :=
  let s1 := s.consumeWindow sp w
  if s1.presetStop sp then
    let t := s1.enterSettling sp .presetReached
    (t.1, t.2 ++ [.overrunTest sp])
  else
    let t := s1.exhaustion sp
    (t.1, t.2 ++ [.lookahead sp, .overrunTest sp])

/-- R97, R102, R104, R105: a window result at the transfer driver. -/
def State.reactWindowDriver (s : State) (sp : SpotId) (w : WindowResult) : Reacted :=
  match s.stateOf sp with
  | .transfer =>
    let s1 := (s.modSpot sp (Spot.modDriver (Driver.addWindow w))).stallSupervision sp w
    let run := voidRunAfter w (s.spots.get sp).driver.voidRun
    let s2 := s1.modSpot sp (Spot.modDriver fun d => { d with voidRun := run })
    if decide (w.cls = .void) && decide ((s.spotCfg.get sp).emptyCount ≤ run) then
      (s2.latchSpot sp .liquidOut).enterSettling sp .liquidOut
    else (s2, [])
  | .settling => (s.modSpot sp (Spot.modDriver (Driver.settleWindow (s.spotCfg.get sp) w.flow)), [])
  | _ => (s, [])

/-- R34: the pulse-fault indication holds a spot in TRANSFER whose option is set. -/
def State.reactPulseFault (s : State) (sp : SpotId) : Reacted :=
  if s.stateOf sp = .transfer ∧ (s.spotCfg.get sp).holdOnPulseFault = true then s.enterHeld sp .pulseFault none else (s, [])

/-- One reaction. -/
def State.react (s : State) : Reaction → Reacted
  | .functionChanged f active => s.reactFunction f active
  | .arbiter => s.reactArbiter
  | .grantReached sp => s.reactGrant sp
  | .runReached c => s.reactRun c
  | .compressorFault c => s.reactCompFault c
  | .releaseCompressor sp immediate => s.reactRelease sp immediate
  | .releaseStorage sp => s.reactReleaseStorage sp
  | .grantPass v => s.reactGrantPass v
  | .blockGranted sp => s.reactBlockGranted sp
  | .askFirst sp => s.reactAskFirst sp
  | .lookahead sp => s.reactLookahead sp
  | .startWait sp => s.reactStartWait sp
  | .transferTest sp => s.reactTransferTest sp
  | .overpressureTest sp => s.reactOverpressure sp
  | .recoveryReading sp => s.reactRecoveryReading sp
  | .resumeDwell sp => s.reactResumeDwell sp
  | .engineRun sp => s.reactEngine sp
  | .serveTickets => s.reactServe
  | .departureTest sp => s.reactDeparture sp
  | .spotTrip sp cause => s.reactSpotTrip sp cause
  | .siteCause c => s.reactSiteCause c
  | .windowToVessel sp w => s.reactWindowVessel sp w
  | .overrunTest sp => (s.overrunTest sp, [])
  | .windowToDriver sp w => s.reactWindowDriver sp w
  | .pulseFault sp => s.reactPulseFault sp

/-- Take reactions until none is left, each one's followers before those that wait; at most as many as the fuel (log 4). -/
def drain : Nat → List Reaction → State → State
  | 0, _, s => s
  | _ + 1, [], s => s
  | n + 1, r :: rs, s => drain n ((s.react r).2 ++ rs) (s.react r).1

/-- Take the reactions that a change has set off, to the end. -/
def State.settleAll (s : State) (rs : List Reaction) : State := drain Config.cascadeFuel rs s

/-- A change with its reactions, to the end. -/
def Reacted.settled (t : Reacted) : State := t.1.settleAll t.2

end Sys2Proof.Machine
end

