-- ==== Sys2Proof/Machine/Operands.lean ====
section
/-! DEFINITION. The byte layouts of section 10.6: how the fields of a request body are read, how a configuration record is
read and judged, and how the bytes of the configuration, STATUS and ticket replies are formed. -/

namespace Sys2Proof.Machine

/-! ### Integers (R188) -/

/-- The unsigned integer that some bytes spell, high byte first (R188). -/
def beNat (bs : List Byte) : Nat := bs.foldl (fun n b => n * 256 + b.toNat) 0

/-- An unsigned integer in a number of bytes, high byte first (R188). -/
def be : Nat → Nat → List Byte
  | 0, _ => []
  | w + 1, n => BitVec.ofNat 8 (n / 256 ^ w) :: be w n

/-- The unsigned field at an offset, of a size in bytes. -/
def field (body : List Byte) (offset size : Nat) : Nat := beNat ((body.drop offset).take size)

/-- A 16-bit field in two's complement (R188). -/
def signed16 (n : Nat) : Int := if n < 32768 then (n : Int) else (n : Int) - 65536

/-- A signed 16-bit field's bytes (R188). -/
def beSigned16 (x : Int) : List Byte := be 2 ((x % 65536).toNat)

/-- A field present in a reply, or zeros when it is absent (R188). -/
def beOption (w : Nat) (x : Option Nat) : List Byte := be w (x.getD 0)

/-- A bit in a byte or word, as a number. -/
def bitAt (b : Bool) (i : Nat) : Nat := if b then 2 ^ i else 0

/-- A flag field: 0 clear or out, 1 set or in (section 10.6). -/
def flagOf (n : Nat) : Option Bool :=
  match n with
  | 0 => some false
  | 1 => some true
  | _ => none

/-- A flag field's value. -/
def flagCode (b : Bool) : Nat := if b then 1 else 0

/-- A number from 1 to `n` as an index from 0 (R188). -/
def oneBased (n k : Nat) : Option (Fin n) :=
  if h : 1 ≤ k ∧ k ≤ n then some ⟨k - 1, by omega⟩ else none

/-- A number within a range, inclusive at both ends. -/
def within (lo hi n : Nat) : Bool := decide (lo ≤ n) && decide (n ≤ hi)

/-! ### Value codes -/

/-- The byte of a result code (section 10.2). -/
def ResultCode.byte : ResultCode → Byte
  | .done => 0x00
  | .doneClamped => 0x01
  | .refusedKind => 0x80
  | .refusedField => 0x81
  | .refusedState => 0x82
  | .refusedSeat => 0x83
  | .refusedAuth => 0x84
  | .refusedLocked => 0x85
  | .refusedBusy => 0x86
  | .refusedFull => 0x87
  | .refusedEmpty => 0x88
  | .refusedMismatch => 0x89

/-- The codes of the spot states (section 10.6). -/
def SpotState.code : SpotState → Nat
  | .vacant => 1
  | .ordered => 2
  | .liningUp => 3
  | .ready => 4
  | .awaitCompressor => 5
  | .pressurising => 6
  | .transfer => 7
  | .paused _ => 8
  | .held => 9
  | .settling => 10
  | .recovery => 11
  | .closing => 12
  | .complete => 13
  | .tripped => 14

/-- The codes of the PAUSED reasons (section 10.6). -/
def PauseReason.code : PauseReason → Nat
  | .ullage => 1
  | .compressor => 2

/-- The codes of the hold causes (section 10.6). -/
def HoldCause.code : HoldCause → Nat
  | .stall => 1
  | .pulseFault => 2
  | .valve => 3
  | .pressuriseTimeout => 4
  | .operator => 5

/-- The codes of the compressor states (section 10.6). -/
def CompState.code : CompState → Nat
  | .outOfService => 0
  | .idle => 1
  | .changeoverFromIdle => 2
  | .changeoverInPlace => 2
  | .starting => 3
  | .runPush => 4
  | .runPull => 5
  | .stopping _ => 6
  | .fault => 7

/-- The codes of the modes (section 10.6). -/
def Mode.code : Mode → Nat
  | .preset _ => 1
  | .empty => 2

/-- The preset mass of a mode, when it has one. -/
def Mode.presetMass : Mode → Option Nat
  | .preset kg => some kg
  | .empty => none

/-- The codes of the end causes (section 10.6). -/
def EndCause.code : EndCause → Nat
  | .presetReached => 1
  | .liquidOut => 2
  | .stopped => 3
  | .aborted => 4
  | .tripped => 5
  | .restart => 6

/-- The codes of the trip causes (section 10.6). -/
def TripCause.code : TripCause → Nat
  | .permissive => 1
  | .spotEsd => 2
  | .vesselHigh => 3
  | .carOverpressure => 4
  | .valve => 5
  | .site => 6

/-- The code of a link. -/
def linkCode : Link → Nat
  | .supervisory => 0
  | .panel => 1

/-- The codes of the metrology lock (section 11.2). -/
def MetrologyLock.code : MetrologyLock → Nat
  | .none => 0
  | .pending => 1
  | .effective => 2

/-- The codes of the valves, bits 0 to 2 of a step byte (section 10.6). -/
def valveCode : Valve → Nat
  | .la => 1
  | .va => 2
  | .vh => 3
  | .dr => 4
  | .lh => 5

/-- The valves a list step or a VALVE COMMAND may name: LA, VA, VH and DR (R2, R120, R127). -/
def listValve (n : Nat) : Option Valve :=
  match n with
  | 1 => some .la
  | 2 => some .va
  | 3 => some .vh
  | 4 => some .dr
  | _ => none

/-- The action of a code: 0 CLOSE, 1 OPEN (section 10.6). -/
def actionOf (n : Nat) : Option Action :=
  match n with
  | 0 => some .toClose
  | 1 => some .toOpen
  | _ => none

/-- An action's code. -/
def Action.code : Action → Nat
  | .toClose => 0
  | .toOpen => 1

/-- The step that a step byte spells; none when it names LH or no valve. Bits 3, 6 and 7 have no meaning in the layout and
are not looked at (log 9). -/
def stepOf (b : Byte) : Option ListStep :=
  (listValve (b.toNat % 8)).map fun v => ⟨v, if b.getLsbD 4 then .toOpen else .toClose, b.getLsbD 5⟩

/-- The byte of a step. -/
def stepByte (k : ListStep) : Byte :=
  BitVec.ofNat 8 (valveCode k.valve + bitAt (decide (k.action = .toOpen)) 4 + bitAt k.wait 5)

/-- A list of steps; none when it is empty, longer than 16 steps, or has a bad step (R2, R120). -/
def stepsOf (bs : List Byte) : Option (List ListStep) :=
  if bs.isEmpty || decide (16 < bs.length) then none else bs.mapM stepOf

/-! ### Function codes (section 10.6) -/

/-- The functions of one compressor, in code order. -/
def compFunctions : List CompFn := [.running, .pushProven, .pullProven, .fault]

/-- All 156 functions in the order of their codes 1 to 156. -/
def allFunctions : List FieldFn :=
  allSpots.flatMap (fun sp => spotFunctions.map (FieldFn.spot sp)) ++
    allComps.flatMap (fun c => compFunctions.map (FieldFn.comp c)) ++
    [0, 1, 2, 3].map FieldFn.esd ++ [0, 1, 2, 3, 4, 5, 6, 7].map FieldFn.gas ++ allVessels.map FieldFn.highLevel

/-- The position of a valve's open-proven function among the per-spot codes. -/
def openProvenCode : Valve → Nat
  | .la => 7
  | .va => 9
  | .vh => 11
  | .dr => 13
  | .lh => 15

/-- The per-spot code of a function. -/
def SpotFn.code : SpotFn → Nat
  | .earth => 1
  | .armLiq => 2
  | .armVap => 3
  | .chock => 4
  | .vapourInLine => 5
  | .spotEsd => 6
  | .openProven v => openProvenCode v
  | .closedProven v => openProvenCode v + 1

/-- The code of a compressor function within its compressor. -/
def CompFn.code : CompFn → Nat
  | .running => 0
  | .pushProven => 1
  | .pullProven => 2
  | .fault => 3

/-- The code of a function (section 10.6). -/
def FieldFn.code : FieldFn → Nat
  | .spot sp f => 16 * sp.val + f.code
  | .comp c f => 129 + 4 * c.val + f.code
  | .esd i => 141 + i.val
  | .gas i => 145 + i.val
  | .highLevel v => 153 + v.val

/-- The code of a line's function, 0 for none. -/
def functionCode : Option FieldFn → Nat
  | none => 0
  | some f => f.code

/-- The function, or none, that a function code stands for; no answer for a code that does not exist. -/
def functionOf (n : Nat) : Option (Option FieldFn) :=
  if n = 0 then some none else (allFunctions[n - 1]?).map some

/-- The function of a bypass in the per-spot codes (R141, R143). -/
def bypassFnOf (n : Nat) : Option BypassFn :=
  match n with
  | 1 => some .earth
  | 2 => some .armLiq
  | 3 => some .armVap
  | 4 => some .chock
  | 5 => some .vapourInLine
  | _ => none

/-! ### Configuration records: their bytes and their ranges (sections 10.6 and 11.1) -/

/-- Strictly ascending (R189). -/
def strictlyAscending : List Nat → Bool
  | [] => true
  | [_] => true
  | a :: b :: rest => decide (a < b) && strictlyAscending (b :: rest)

/-- The unit record's ranges (section 5.1, 4.1, 8.1, 10.3). -/
def UnitCfg.inRange (u : UnitCfg) : Bool :=
  !u.ladder.any (fun x => !within 20 600 x) && strictlyAscending u.ladder.cells && within 50 600 u.pullSetpoint &&
    within 1 8 u.gasVote && within 0 7 u.attemptLimit

/-- The unit record that 24 bytes carry. -/
def readUnit (b : List Byte) : UnitCfg where
  ladder := Bank.ofFn fun i => field b (2 * i.val) 2
  pullSetpoint := field b 16 2
  gasVote := field b 18 1
  attemptLimit := field b 19 1
  supervisorCode := field b 20 4

/-- The unit record judged: none when a field is out of range (R189). -/
def parseUnit (b : List Byte) : Option UnitCfg := if (readUnit b).inRange then some (readUnit b) else none

/-- The bytes of a unit record as READ CONFIG gives them: 0, 0, 0 and the lockout flag for the supervisor code (R187). -/
def unitBytes (u : UnitCfg) (lockout : Bool) : List Byte :=
  u.ladder.cells.flatMap (be 2) ++ be 2 u.pullSetpoint ++ be 1 u.gasVote ++ be 1 u.attemptLimit ++
    [0, 0, 0] ++ be 1 (flagCode lockout)

/-- The spot record's ranges (chapters 1 to 6). -/
def SpotCfg.inRange (c : SpotCfg) : Bool :=
  within 2 60 c.provingTime && within 500 20000 c.blockSize && within 0 2000 c.presetLead &&
    within 0 500 c.overrunTolerance && within 0 3600 c.ullageWaitLimit && within 1000 2000000 c.kFactor &&
    within 9000 11000 c.meterFactor && within 1 1000 c.flowOn && within 0 c.flowOn c.flowOff &&
    within 1 1000 c.mismatchThreshold && within 1 8 c.floorStep && within 10 600 c.dwell && within 0 255 c.slipThreshold &&
    within 50 1500 c.targetFlow && within 30 900 c.pressuriseLimit && within 50 600 c.stallDp && within 10 300 c.stallTime &&
    within 2 40 c.emptyCount && within 2 30 c.settleTime && within 500 2000 c.carMaximum && within 10 200 c.vacuumGuard &&
    within 10 300 c.recoveryProving && within 5 240 c.recoveryLimit && !c.strokeTimeouts.any (fun x => !within 2 120 x)

/-- The spot record that 48 bytes carry, given its two flags. -/
def readSpot (b : List Byte) (inService holdOption : Bool) : SpotCfg where
  inService := inService
  provingTime := field b 1 1
  blockSize := field b 2 2
  presetLead := field b 4 2
  overrunTolerance := field b 6 2
  ullageWaitLimit := field b 8 2
  kFactor := field b 10 4
  meterFactor := field b 14 2
  flowOn := field b 16 2
  flowOff := field b 18 2
  mismatchThreshold := field b 20 2
  holdOnPulseFault := holdOption
  floorStep := field b 23 1
  dwell := field b 24 2
  slipThreshold := field b 26 1
  targetFlow := field b 27 2
  pressuriseLimit := field b 29 2
  stallDp := field b 31 2
  stallTime := field b 33 2
  emptyCount := field b 35 1
  settleTime := field b 36 1
  carMaximum := field b 37 2
  vacuumGuard := field b 39 1
  recoveryProving := field b 40 2
  recoveryLimit := field b 42 1
  strokeTimeouts := Bank.ofFn fun i => field b (43 + i.val) 1

/-- The spot record judged (R189). -/
def parseSpot (b : List Byte) : Option SpotCfg :=
  match flagOf (field b 0 1), flagOf (field b 22 1) with
  | some service, some option => if (readSpot b service option).inRange then some (readSpot b service option) else none
  | _, _ => none

/-- The bytes of a spot record. -/
def spotBytes (c : SpotCfg) : List Byte :=
  be 1 (flagCode c.inService) ++ be 1 c.provingTime ++ be 2 c.blockSize ++ be 2 c.presetLead ++ be 2 c.overrunTolerance ++
    be 2 c.ullageWaitLimit ++ be 4 c.kFactor ++ be 2 c.meterFactor ++ be 2 c.flowOn ++ be 2 c.flowOff ++
    be 2 c.mismatchThreshold ++ be 1 (flagCode c.holdOnPulseFault) ++ be 1 c.floorStep ++ be 2 c.dwell ++
    be 1 c.slipThreshold ++ be 2 c.targetFlow ++ be 2 c.pressuriseLimit ++ be 2 c.stallDp ++ be 2 c.stallTime ++
    be 1 c.emptyCount ++ be 1 c.settleTime ++ be 2 c.carMaximum ++ be 1 c.vacuumGuard ++ be 2 c.recoveryProving ++
    be 1 c.recoveryLimit ++ c.strokeTimeouts.cells.flatMap (be 1)

/-- The product entry's ranges (section 2.1). -/
def ProductCfg.inRange (c : ProductCfg) : Bool :=
  within 0 4000 c.alpha && within 4000 6500 c.density && decide (-500 ≤ c.fallback) && decide (c.fallback ≤ 600)

/-- The product entry that 7 bytes carry, given its flag. -/
def readProduct (b : List Byte) (configured : Bool) : ProductCfg where
  configured := configured
  alpha := field b 1 2
  density := field b 3 2
  fallback := signed16 (field b 5 2)

/-- The product entry judged (R189). -/
def parseProduct (b : List Byte) : Option ProductCfg :=
  match flagOf (field b 0 1) with
  | some flag => if (readProduct b flag).inRange then some (readProduct b flag) else none
  | none => none

/-- The bytes of a product entry. -/
def productBytes (c : ProductCfg) : List Byte :=
  be 1 (flagCode c.configured) ++ be 2 c.alpha ++ be 2 c.density ++ beSigned16 c.fallback

/-- The vessel record judged: its age limit 30 to 3,600 s (section 3.1). -/
def parseVessel (b : List Byte) : Option VesselCfg :=
  match flagOf (field b 0 1) with
  | some flag => if within 30 3600 (field b 1 2) then some ⟨flag, field b 1 2⟩ else none
  | none => none

/-- The bytes of a vessel record. -/
def vesselBytes (c : VesselCfg) : List Byte := be 1 (flagCode c.inService) ++ be 2 c.ageLimit

/-- The compressor record judged (section 4.1). -/
def parseComp (b : List Byte) : Option CompCfg :=
  if within 5 60 (field b 0 1) && within 5 120 (field b 1 1) && within 5 60 (field b 2 1) then
    some ⟨field b 0 1, field b 1 1, field b 2 1⟩
  else none

/-- The bytes of a compressor record. -/
def compBytes (c : CompCfg) : List Byte := be 1 c.changeover ++ be 1 c.runUp ++ be 1 c.runDown

/-- The eight filter times (R131). -/
def filterTimes : List Nat := [0, 25, 50, 100, 200, 400, 800, 1600]

/-- The level of a code: 0 low, 1 high (section 10.6). -/
def levelOf (n : Nat) : Option Level :=
  match n with
  | 0 => some .low
  | 1 => some .high
  | _ => none

/-- A level's code. -/
def levelCode : Level → Nat
  | .low => 0
  | .high => 1

/-- The edge choice of a code (section 10.6). -/
def edgeOf (n : Nat) : Option EdgeChoice :=
  match n with
  | 0 => some .never
  | 1 => some .activation
  | 2 => some .deactivation
  | 3 => some .both
  | _ => none

/-- An edge choice's code. -/
def EdgeChoice.code : EdgeChoice → Nat
  | .never => 0
  | .activation => 1
  | .deactivation => 2
  | .both => 3

/-- The input map line judged (R134, check 1). -/
def parseLine (b : List Byte) : Option LineCfg :=
  match functionOf (field b 0 1), levelOf (field b 1 1), edgeOf (field b 4 1) with
  | some f, some a, some e => if filterTimes.contains (field b 2 2) then some ⟨f, a, field b 2 2, e⟩ else none
  | _, _, _ => none

/-- The bytes of an input map line. -/
def lineBytes (c : LineCfg) : List Byte :=
  be 1 (functionCode c.function) ++ be 1 (levelCode c.activeLevel) ++ be 2 c.filterTime ++ be 1 c.edge.code

/-- The rate of a code (section 10.6). -/
def rateOf (n : Nat) : Option Rate :=
  match n with
  | 1 => some .baud9600
  | 2 => some .baud19200
  | 3 => some .baud38400
  | 4 => some .baud115200
  | _ => none

/-- A rate's code. -/
def Rate.code : Rate → Nat
  | .baud9600 => 1
  | .baud19200 => 2
  | .baud38400 => 3
  | .baud115200 => 4

/-- The link record judged: an address 1 to 247, one of four rates (section 10.1). -/
def parseLink (b : List Byte) : Option LinkCfg :=
  match rateOf (field b 1 1) with
  | some r => if within 1 247 (field b 0 1) then some ⟨BitVec.ofNat 8 (field b 0 1), r⟩ else none
  | none => none

/-- The bytes of a link record. -/
def linkBytes (c : LinkCfg) : List Byte := [c.address] ++ be 1 c.rate.code

/-- The range of an analog scale end (section 7.4). -/
def scaleEnd (ch : ChannelId) (x : Int) : Bool :=
  if ch.val < 8 then decide (-1000 ≤ x) && decide (x ≤ 1000) else decide (-100 ≤ x) && decide (x ≤ 5000)

/-- The analog scaling record judged (R189). -/
def parseScale (ch : ChannelId) (b : List Byte) : Option ScaleCfg :=
  let lo := signed16 (field b 0 2)
  let hi := signed16 (field b 2 2)
  if scaleEnd ch lo && scaleEnd ch hi && decide (lo < hi) then some ⟨lo, hi⟩ else none

/-- The bytes of an analog scaling record. -/
def scaleBytes (c : ScaleCfg) : List Byte := beSigned16 c.low ++ beSigned16 c.high

/-- The bytes of a stored list. -/
def listBytes (l : List ListStep) : List Byte := be 1 l.length ++ l.map stepByte

/-! ### Configuration targets -/

/-- A configuration target with its index (section 10.6). -/
inductive Target where
  | unit
  | spot (sp : SpotId)
  | product (p : ProductId)
  | vessel (v : VesselId)
  | compressor (c : CompId)
  | line (i : LineId)
  | lineUp (sp : SpotId)
  | closeDown (sp : SpotId)
  | link (l : Link)
  | scaling (ch : ChannelId)
  deriving DecidableEq, Repr

/-- The target that a target code and an index name; none when they name nothing (R187, R189). -/
def targetOf (code index : Nat) : Option Target :=
  match code with
  | 1 => if index = 0 then some .unit else none
  | 2 => (oneBased 8 index).map .spot
  | 3 => (oneBased 8 index).map .product
  | 4 => (oneBased 4 index).map .vessel
  | 5 => (oneBased 3 index).map .compressor
  | 6 => (oneBased 160 index).map .line
  | 7 => if index ≤ 8 then (oneBased 8 index).map .lineUp else (oneBased 8 (index - 8)).map .closeDown
  | 8 => if index = 1 then some (.link .supervisory) else if index = 2 then some (.link .panel) else none
  | 9 => (oneBased 20 index).map .scaling
  | _ => none

/-- The record length of a target code (section 10.6); for a list, that of its step count field alone. -/
def recordLength (code : Nat) : Option Nat :=
  match code with
  | 1 => some 24
  | 2 => some 48
  | 3 => some 7
  | 4 => some 3
  | 5 => some 3
  | 6 => some 5
  | 7 => some 1
  | 8 => some 2
  | 9 => some 4
  | _ => none

/-- The index of a target names an item that the decoder routes by: a spot, vessel, compressor or link in range (R178).
DESIGN CHOICE (log 10): a list index, 1 to 16, names its list's spot and is such a routing number too, refused before the
authentication check; an index of another kind is judged by the settings store after it. -/
def configRouted (code index : Nat) : Bool :=
  match code with
  | 2 => within 1 8 index
  | 4 => within 1 4 index
  | 5 => within 1 3 index
  | 7 => within 1 16 index
  | 8 => within 1 2 index
  | _ => true

/-- The shape of a CONFIGURE body: a target of the table, an index in range where it routes, and the length of that
target's record; for a list its steps are counted in (R178). -/
def configShape (body : List Byte) : Bool :=
  match recordLength (field body 0 1) with
  | none => false
  | some n =>
    configRouted (field body 0 1) (field body 1 1) &&
      decide (body.length = 2 + n + (if field body 0 1 = 7 then field body 2 1 else 0))

/-- The shape of a CAR ORDER body: 27 bytes and one for each step counted (R178). -/
def orderShape (body : List Byte) : Bool := decide (27 ≤ body.length) && decide (body.length = 27 + field body 26 1)

/-- The shape of a LIST LOAD body: 3 bytes and one for each step counted (R178). -/
def listShape (body : List Byte) : Bool := decide (3 ≤ body.length) && decide (body.length = 3 + field body 2 1)

/-- The stored record of a target in the layout of section 10.6 (R187). -/
def State.configBytes (s : State) : Target → List Byte
  | .unit => unitBytes s.unit s.lockout
  | .spot sp => spotBytes (s.spotCfg.get sp)
  | .product p => productBytes (s.products.get p)
  | .vessel v => vesselBytes (s.vesselCfg.get v)
  | .compressor c => compBytes (s.compCfg.get c)
  | .line i => lineBytes (s.lineCfg.get i)
  | .lineUp sp => listBytes (s.lineUp.get sp)
  | .closeDown sp => listBytes (s.closeDown.get sp)
  | .link l => linkBytes (s.linkCfg.get (linkIndex l))
  | .scaling ch => scaleBytes (s.scaling.get ch)

/-! ### The car order (R2, R3) -/

/-- A printable character (section 10.6). -/
def printable (b : Byte) : Bool := within 0x20 0x7E b.toNat

/-- The preset mass a body carries, when its presence bit is set. -/
def presentField (presence bit value : Nat) : Option Nat := if presence.testBit bit then some value else none

/-- A value brought into a range, and whether it had to be (R3). -/
def clampTo (lo hi n : Nat) : Nat × Bool := (max lo (min hi n), !within lo hi n)

/-- The mode that a body orders, with its clamp (R2, R3): PRESET with a mass above 0, or EMPTY without one. -/
def orderMode (code : Nat) (preset : Option Nat) : Option (Mode × Bool) :=
  match code, preset with
  | 1, some kg => if kg = 0 then none else some (.preset (min kg Config.presetMax), decide (Config.presetMax < kg))
  | 2, none => some (.empty, false)
  | _, _ => none

/-- The block size in use, with its clamp (R3). -/
def orderBlock (configured : Nat) (asked : Option Nat) : Nat × Bool :=
  match asked with
  | some kg => clampTo 500 20000 kg
  | none => (configured, false)

/-- A recovery target is in range (R2). -/
def targetFits (guard : Nat) : Option Nat → Bool
  | some t => within 50 800 t && decide (guard + 20 ≤ t)
  | none => true

/-- The line-up override of a body: absent, a list, or malformed (R2). -/
def orderOverride (present : Bool) (bs : List Byte) : Option (Option (List ListStep)) :=
  if present then (stepsOf bs).map some else some none

/-- The stored order of a CAR ORDER body of 27 + S bytes, and whether a value was clamped; none when a field is refused
(R2, R3). -/
def State.parseOrder (s : State) (sp : SpotId) (b : List Byte) : Option (Order × Bool) :=
  let idLen := field b 1 1
  let carId := (b.drop 2).take idLen
  let presence := field b 17 1
  let target := presentField presence 2 (field b 24 2)
  match oneBased 8 (field b 14 1), oneBased 4 (field b 15 1),
      orderMode (field b 16 1) (presentField presence 0 (field b 18 4)),
      orderOverride (presence.testBit 3) (b.drop 27) with
  | some p, some v, some m, some steps =>
    if within 1 12 idLen && carId.all printable && (s.products.get p).configured && (s.vesselCfg.get v).inService &&
        targetFits (s.spotCfg.get sp).vacuumGuard target && decide (presence < 16) then
      let block := orderBlock (s.spotCfg.get sp).blockSize (presentField presence 1 (field b 22 2))
      some (⟨carId, p, v, m.1, block.1, target, steps⟩, m.2 || block.2)
    else none
  | _, _, _, _ => none

/-! ### The STATUS and ticket bodies (section 10.6) -/

/-- The site trip byte of the STATUS body. -/
def siteTripByte (t : SiteTripState) : Nat :=
  bitAt t.active 0 + bitAt (t.esd.get 0) 1 + bitAt (t.esd.get 1) 2 + bitAt (t.esd.get 2) 3 + bitAt (t.esd.get 3) 4 +
    bitAt t.gasVote 5 + bitAt t.requestSupervisory 6 + bitAt t.requestPanel 7

/-- The vessel mark byte of the STATUS body. -/
def vesselMarkByte (t : Latches) : Nat :=
  (allVessels.map (fun v => bitAt (t.vesselStale.get v) v.val + bitAt (t.vesselHigh.get v) (4 + v.val))).sum

/-- The compressor and link mark byte of the STATUS body. -/
def compMarkByte (t : Latches) : Nat :=
  (allComps.map (fun c => bitAt (t.compressorFault.get c) c.val)).sum + bitAt (t.linkOverrun.get 0) 4 +
    bitAt (t.linkOverrun.get 1) 5

/-- The reason or cause a spot carries with its state: the PAUSED reason in PAUSED, the hold cause in HELD (section
10.6). -/
def Spot.reasonCode (p : Spot) : Nat :=
  match p.state with
  | .paused r => r.code
  | .held =>
    match p.record.bind (fun r => r.holdCause) with
    | some c => c.code
    | none => 0
  | _ => 0

/-- The record of a spot waits with its ticket pending. -/
def Spot.ticketPending (p : Spot) : Bool :=
  match p.record with
  | some r => r.ticketPending
  | none => false

/-- The two STATUS bytes of a spot. -/
def State.spotStatus (s : State) (sp : SpotId) : List Byte :=
  let p := s.spots.get sp
  be 1 p.state.code ++
    be 1 (linkCode p.seat + bitAt (s.spotCfg.get sp).inService 1 + bitAt p.ticketPending 2 + bitAt p.snapshot.isSome 3 +
      16 * p.reasonCode)

/-- The authentication byte of the STATUS body. -/
def State.authByte (s : State) : Nat :=
  bitAt (s.links.get 0).authenticated 0 + bitAt (s.links.get 1).authenticated 1 + bitAt s.lockout 2

/-- The number of the oldest ticket, 0 when the queue is empty (section 10.6). -/
def State.oldestNumber (s : State) : Nat :=
  match s.tickets with
  | t :: _ => t.number
  | [] => 0

/-- The STATUS body, 59 bytes (R186, section 10.6). -/
def State.statusBytes (s : State) : List Byte :=
  be 2 s.latches.unitWord.toNat ++ be 2 s.unitMask.toNat ++ be 2 s.spotMask.toNat ++ be 1 (flagCode s.attention) ++
    be 1 (siteTripByte s.siteTrip) ++ be 1 (vesselMarkByte s.latches) ++ be 1 (compMarkByte s.latches) ++
    be 1 s.authByte ++ be 1 s.failures ++ be 1 s.lock.code ++ be 1 (flagCode s.clock.isSome) ++ be 4 s.clockValue ++
    be 1 s.tickets.length ++ be 1 s.pendingOrder.length ++ be 4 s.oldestNumber ++
    allComps.flatMap (fun c => be 1 (s.comps.get c).state.code) ++ allSpots.flatMap s.spotStatus ++
    allSpots.flatMap (fun sp => be 2 (s.latches.spot.get sp).toNat)

/-- The quality word of a ticket (section 10.6). -/
def Quality.word (q : Quality) : Nat :=
  bitAt q.singleChannel 0 + bitAt q.pulseMismatch 1 + bitAt q.tempHeld 2 + bitAt q.tempSubstituted 3 +
    bitAt q.tempClamped 4 + bitAt q.voidExcluded 5 + bitAt q.recoveryIncomplete 6 + bitAt q.overrun 7 +
    bitAt q.clockNotSet 8

/-- A car identifier in its field of 12 bytes, zeros beyond its length (R188). -/
def carIdField (id : List Byte) : List Byte := (id ++ List.replicate 12 0).take 12

/-- The presence byte of a ticket body. -/
def Ticket.presence (t : Ticket) : Nat :=
  bitAt t.mode.presetMass.isSome 0 + bitAt t.startTimestamp.isSome 1 + bitAt t.recoveryEnd.isSome 2 +
    bitAt t.tempExtremes.isSome 3

/-- The ticket body, 68 bytes (section 10.6). -/
def Ticket.bytes (t : Ticket) : List Byte :=
  be 4 t.number ++ be 1 (t.spot.val + 1) ++ be 1 t.carId.length ++ carIdField t.carId ++ be 1 (t.product.val + 1) ++
    be 1 (t.vessel.val + 1) ++ be 1 t.mode.code ++ be 1 t.presence ++ beOption 4 t.mode.presetMass ++
    beOption 4 t.startTimestamp ++ be 4 t.endTimestamp ++ be 4 t.grossLiquid ++ be 4 t.grossVoid ++
    be 4 t.standardVolume ++ be 4 t.netMass ++ be 4 t.overrun ++ be 1 ((t.endCause.map EndCause.code).getD 0) ++
    be 1 ((t.tripCause.map TripCause.code).getD 0) ++ be 2 t.quality.word ++ beSigned16 (t.recoveryEnd.getD 0) ++
    beSigned16 ((t.tempExtremes.map Prod.fst).getD 0) ++ beSigned16 ((t.tempExtremes.map Prod.snd).getD 0) ++
    be 4 t.totaliser

/-- The READ TICKET reply: the ticket body, the number of tickets, the number of spots in the pending order and those
spots, head first (section 10.6). -/
def State.ticketReply (s : State) (t : Ticket) : List Byte :=
  t.bytes ++ be 1 s.tickets.length ++ be 1 s.pendingOrder.length ++
    s.pendingOrder.flatMap (fun e => be 1 (e.spot.val + 1))

/-- The bytes of a reply frame after its marker, where the spec gives the layout of its data (R177). -/
def Reply.frame (r : Reply) : Option (List Byte) :=
  match r.data with
  | .none => some (frameBytes r.address r.kind r.tag [r.code.byte])
  | .bytes bs => some (frameBytes r.address r.kind r.tag (r.code.byte :: bs))
  | .spot _ => none
  | .vessel _ => none
  | .compressor _ => none
  | .inputs _ => none
  | .snapshot _ => none

end Sys2Proof.Machine
end

