-- ==== Sys2Proof/Machine/Views.lean ====
section
/-! DEFINITION. What the read requests report of a spot, a vessel, a compressor and the inputs, by the values that their
rules name. -/

namespace Sys2Proof.Machine

/-! ### READ SPOT (R26, R51, R113, R128) -/

/-- The order values of a spot (R26). -/
def orderView (o : Order) : OrderView where
  carId := o.carId
  product := o.product
  vessel := o.vessel
  mode := o.mode
  block := o.block
  recoveryTarget := o.recoveryTarget
  overridePresent := o.lineUpOverride.isSome

/-- The record values of a spot (R26). -/
def recordView (r : Record) : RecordView where
  phase := r.phase
  endCause := r.endCause
  holdCause := r.holdCause
  tripCause := r.tripCause
  enteredTransfer := r.enteredTransfer
  grossLiquid := r.grossLiquid
  grossVoid := r.grossVoid
  standardVolume := r.standardVolume
  netMass := r.netMass
  overrun := r.overrun
  mismatch := r.mismatch
  failover := r.failover
  tempHeld := r.tempHeld
  tempSubstituted := r.tempSubstituted
  tempClamped := r.tempClamped
  recoveryEnd := r.recoveryEnd
  recoveryIncomplete := r.recoveryIncomplete
  ticketPending := r.ticketPending

/-- The name of a temperature hold state (R42). -/
def TempHold.source : TempHold → TempSource
  | .live => .live
  | .held _ => .held
  | .substituted => .substituted

/-- The meter channel's values (R51). DESIGN CHOICE (log 37): the temperature hold state is the one that stands at the read,
not that of the last window close. In VACANT and COMPLETE the per-record values are those log 36 leaves. -/
def meterView (m : Meter) : MeterView where
  primary := m.primary
  health := m.health
  flow := m.flow
  last := m.last.map fun w => (w.count, w.cls, w.grams)
  lastLiquid := m.lastLiquid
  totaliser := m.totaliser
  hold := m.hold.source

/-- The transfer driver's values (R113): each timer shows only while it runs, and a timer runs only in the state it belongs
to. -/
def State.driverView (s : State) (sp : SpotId) : DriverView :=
  let d := (s.spots.get sp).driver
  { step := d.step
    tableValue := s.ladderValue d.step
    dwell := d.dwell.map fun t => (t, d.secondHalf, d.slips, d.dwellMass)
    lowYield := d.lowYield
    dp := s.dp sp
    carPressure := s.sample (carChannel sp)
    pressurise := d.pressurise
    stall := d.stall
    voidRun := if s.stateOf sp = .transfer then some d.voidRun else none
    settle := d.settle
    settleLimit := d.settleLimit
    recoveryLimit := d.recoveryLimit
    recoveryProving := d.recoveryProving }

/-- One valve's values (R128). -/
def State.valveView (s : State) (sp : SpotId) (v : Valve) : ValveView :=
  let u := s.valve sp v
  { command := u.command
    energised := s.valveOutput sp v
    openProven := s.reading (.spot sp (.openProven v))
    closedProven := s.reading (.spot sp (.closedProven v))
    position := s.position sp v
    stroke := u.stroke
    disagreement := u.disagreement
    fault := u.fault }

/-- The position of a spot in the wait queue, the head being 1 (R26). -/
def State.queuePosition (s : State) (sp : SpotId) : Option Nat :=
  (s.queue.findIdx? (fun e => decide (e.spot = sp))).map (· + 1)

/-- The outstanding amount of a spot's reservation of a rank at its destination (R26). -/
def State.outstandingOf (s : State) (sp : SpotId) (k : Rank) : Option Nat :=
  match s.vesselOf sp with
  | some v => ((s.vessels.get v).reservation sp k).map (fun r => r.outstanding)
  | none => none

/-- The READ SPOT reply (R26, R51, R113, R128). -/
def State.spotView (s : State) (sp : SpotId) : SpotView :=
  let p := s.spots.get sp
  { state := p.state
    seat := p.seat
    inService := (s.spotCfg.get sp).inService
    order := p.record.map fun r => orderView r.order
    record := p.record.map recordView
    completed := p.completed
    compressor := s.compOf sp
    queuePosition := s.queuePosition sp
    currentBlock := s.outstandingOf sp .current
    nextBlock := s.outstandingOf sp .next
    requestPending := s.hasRequest sp
    meter := meterView p.meter
    driver := s.driverView sp
    valves := Bank.ofFn fun i => s.valveView sp (valveAt i)
    faultedValve := p.faultedValve
    engine := p.engine }

/-! ### READ VESSEL (R72) -/

/-- The reservations of a vessel listed by spot, a current one before a next one (R72). -/
def reservationsBySpot (rs : List Reservation) : List Reservation :=
  allSpots.flatMap fun sp =>
    rs.filter (fun r => decide (r.spot = sp) && decide (r.rank = .current)) ++
      rs.filter (fun r => decide (r.spot = sp) && decide (r.rank = .next))

/-- The READ VESSEL reply (R72); the age in whole seconds (R55). -/
def State.vesselView (s : State) (v : VesselId) : VesselView :=
  let x := s.vessels.get v
  { ullage := x.ullage
    age := x.age.map (fun ms => ms / 1000)
    stale := x.stale
    committed := x.committed
    free := x.free
    reservations := reservationsBySpot x.reservations
    requests := x.requests
    highLevel := s.highLevel v
    pressure := s.sample (vesselChannel v)
    inService := (s.vesselCfg.get v).inService }

/-! ### READ COMPRESSOR (R92) -/

/-- The READ COMPRESSOR reply (R92). -/
def State.compView (s : State) (c : CompId) : CompView :=
  let x := s.comps.get c
  { state := x.state
    inService := s.compService.get c
    position := x.position
    commanded := x.commanded
    running := s.reading (.comp c .running)
    pushProven := s.reading (.comp c .pushProven)
    pullProven := s.reading (.comp c .pullProven)
    fault := s.reading (.comp c .fault)
    assigned := x.assigned
    setpoint := s.setpoint c
    output := s.analogOutput c
    timer := x.timer
    faultLatched := s.latches.compressorFault.get c
    queue := s.queue }

/-! ### READ INPUTS (R145) -/

/-- One line's values (R145). -/
def lineView (c : LineCfg) (l : Line) : LineView where
  raw := l.raw
  filtered := l.filtered
  candidate := l.candidate.isSome
  activeLevel := c.activeLevel
  filterTime := c.filterTime
  function := c.function

/-- The lines of a block of 40, from a line number counted from 0 (R145). -/
def State.lineViews (s : State) (first : Nat) : List LineView :=
  (((s.lineCfg.cells.zip s.lines.cells).drop first).take 40).map fun p => lineView p.1 p.2

/-- The edge choice of a function: that of its line (R134, R136). DESIGN CHOICE (log 39): none while it is unmapped. -/
def State.edgeChoiceOf (s : State) (f : FieldFn) : EdgeChoice :=
  match s.lineOf f with
  | some (c, _) => c.edge
  | none => .never

/-- One function's values; its line is numbered from 1 (R145). -/
def State.functionView (s : State) (f : FieldFn) : FunctionView where
  function := f
  line := (s.lineCfg.cells.findIdx? (fun c => decide (c.function = some f))).map (· + 1)
  value := s.lineValue f
  reading := s.reading f
  bypassed := (s.bypassOn f).isSome
  edge := s.edgeChoiceOf f
  edgeLatched := decide (f ∈ s.latches.inputEdge)

/-- The functions of one spot (R145). -/
def functionsOfSpot (sp : SpotId) : List FieldFn := spotFunctions.map (FieldFn.spot sp)

/-- The compressor, site and vessel functions (R145). -/
def otherFunctions : List FieldFn := allFunctions.drop 128

/-- One analog channel's values (R145). -/
def channelView (c : AnalogChannel) (k : ScaleCfg) : ChannelView where
  current := c.current
  reading := c.reading
  fault := c.fault
  low := k.low
  high := k.high

/-- One bypass record's values; the time in seconds, a part of a second counting as a whole one until it is over (R142). -/
def bypassView (b : Bypass) : BypassView where
  spot := b.spot
  function := b.function
  seconds := (b.remaining + 999) / 1000
  link := b.link

/-- The READ INPUTS reply by section code (section 10.6); none for a section that does not exist (R145). -/
def State.inputsView (s : State) (section_ : Nat) : Option InputsView :=
  if within 1 4 section_ then some (.lines (s.lineViews (40 * (section_ - 1))))
  else
    match oneBased 8 (section_ - 4) with
    | some sp => some (.functions ((functionsOfSpot sp).map s.functionView))
    | none =>
      match section_ with
      | 13 => some (.functions (otherFunctions.map s.functionView))
      | 14 => some (.channels ((s.analog.cells.zip s.scaling.cells).map fun p => channelView p.1 p.2))
      | 15 => some (.bypasses (s.bypasses.map bypassView) s.bypasses.length)
      | _ => none

end Sys2Proof.Machine
end

