-- ==== Sys2Proof/Machine/Links.lean ====
section
/-! DEFINITION. The link interfaces and the request decoder (sections 10.1 and 10.2): what becomes of a frame, the checks
every request takes before its owner, and the reply. -/

namespace Sys2Proof.Machine

/-- What an owner answers: a result code, the reply data, and what follows the reply's last byte. -/
structure Answer where
  code : ResultCode
  data : ReplyData
  after : AfterReply
  deriving DecidableEq, Repr

/-- What an owner does with a request: the state it leaves and its answer. -/
abbrev Handled := State × Answer

/-- A request answered with a code and nothing else. -/
def answer (code : ResultCode) : Answer := ⟨code, .none, .nothing⟩

/-- A refused request: the code alone, and nothing changes (R177, R178). -/
def State.refuse (s : State) (code : ResultCode) : Handled := (s, answer code)

/-- A request carried out that leaves a state and gives no data. -/
def State.accept (s : State) : Handled := (s, answer .done)

/-- A request answered DONE with data. -/
def State.report (s : State) (d : ReplyData) : Handled := (s, ⟨.done, d, .nothing⟩)

/-- The interface of a link. -/
def State.link (s : State) (l : Link) : LinkUnit := s.links.get (linkIndex l)

/-- The receiver of a link enters a state. -/
def State.receive (s : State) (l : Link) (rx : RxState) : State := s.modLink l fun u => { u with rx := rx }

/-- A frame that passed its tests while its link's exchange was BUSY is discarded, and LINK_OVERRUN latched with the mark of
the link (R176). -/
def State.overrun (s : State) (l : Link) : State := (s.receive l .hunt).latchLinkOverrun l

/-- The reply of a request: its link becomes BUSY with it (R176, R177). -/
def State.reply (s : State) (l : Link) (tag kind : Byte) (a : Answer) : State :=
  s.modLink l fun u => { u with exchange := .busy ⟨u.inForce.address, kind, tag, a.code, a.data⟩ a.after }

/-- A valid frame on a link (R175 to R177): with the supply off, or while the receiver ignores every byte, it is not
received; a frame whose marker arrived in a BUSY exchange is an overrun; otherwise its request is taken, and its reply
formed from what the owner leaves. -/
def State.takeFrame (s : State) (l : Link) (tag kind : Byte) (owner : State → Handled) : State :=
  if !s.powered then s
  else
    match (s.link l).rx, (s.link l).exchange with
    | .discard, _ => s
    | .frame _ true _, _ => s.overrun l
    | .hunt, .busy _ _ => s.overrun l
    | .frame _ false _, .busy _ _ => s.overrun l
    | .hunt, .idle => let o := owner (s.receive l .hunt); o.1.reply l tag kind o.2
    | .frame _ false _, .idle => let o := owner (s.receive l .hunt); o.1.reply l tag kind o.2

/-! ### The decoder's checks (R178) -/

/-- Check 2 for a body of a fixed length (R178). -/
def withLength (n : Nat) (body : List Byte) (k : State → Handled) (s : State) : Handled :=
  if body.length = n then k s else s.refuse .refusedField

/-- Check 2 for a number that the decoder routes by (R178). -/
def withNumber {n : Nat} (code : Nat) (k : Fin n → State → Handled) (s : State) : Handled :=
  match oneBased n code with
  | some i => k i s
  | none => s.refuse .refusedField

/-- Check 3 for a SUPERVISE request (R178, R181). -/
def withAuthentication (l : Link) (k : State → Handled) (s : State) : Handled :=
  if (s.link l).authenticated then k s else s.refuse .refusedAuth

/-- Check 3 for a request of the supervisory link alone (R178). -/
def withSupervisory (l : Link) (k : State → Handled) (s : State) : Handled :=
  if l = .supervisory then k s else s.refuse .refusedSeat

/-- The seat check of an owner (R24). -/
def withSeat (l : Link) (sp : SpotId) (k : State → Handled) (s : State) : Handled :=
  if s.holdsSeat sp l then k s else s.refuse .refusedSeat

/-- A request whose body is one spot (section 10.6). -/
def onSpot (body : List Byte) (k : SpotId → State → Handled) (s : State) : Handled :=
  withLength 1 body (withNumber (field body 0 1) k) s

/-- A request whose body is one spot, taken from the seat holder (R24). -/
def onSeatedSpot (l : Link) (body : List Byte) (k : SpotId → State → Handled) (s : State) : Handled :=
  onSpot body (fun sp => withSeat l sp (k sp)) s

end Sys2Proof.Machine
end

