-- ==== Sys2Proof/Machine/Reads.lean ====
section
/-! DEFINITION. The READ requests: none changes the state but READ SNAPSHOT. -/

namespace Sys2Proof.Machine

/-- READ STATUS (R186). -/
def State.readStatus (s : State) : Handled := s.report (.bytes s.statusBytes)

/-- READ SPOT (R26). -/
def State.readSpot (sp : SpotId) (s : State) : Handled := s.report (.spot (s.spotView sp))

/-- READ VESSEL (R72). -/
def State.readVessel (v : VesselId) (s : State) : Handled := s.report (.vessel (s.vesselView v))

/-- READ COMPRESSOR (R92). -/
def State.readCompressor (c : CompId) (s : State) : Handled := s.report (.compressor (s.compView c))

/-- READ INPUTS (R145). -/
def State.readInputs (section_ : Nat) (s : State) : Handled :=
  match s.inputsView section_ with
  | some v => s.report (.inputs v)
  | none => s.refuse .refusedField

/-- READ TICKET (R167). -/
def State.readTicket (s : State) : Handled :=
  match s.tickets with
  | t :: _ => s.report (.bytes (s.ticketReply t))
  | [] => s.refuse .refusedEmpty

/-- READ SNAPSHOT (R159): the slot is emptied by the read. -/
def State.readSnapshot (sp : SpotId) (s : State) : Handled :=
  match (s.spots.get sp).snapshot with
  | some x => (s.modSpot sp fun p => { p with snapshot := none }).report (.snapshot x)
  | none => s.refuse .refusedEmpty

/-- READ CONFIG (R187). -/
def State.readConfig (code index : Nat) (s : State) : Handled :=
  match targetOf code index with
  | some t => s.report (.bytes (s.configBytes t))
  | none => s.refuse .refusedField

/-- READ STATUS (R186). -/
def execReadStatus (l : Link) (tag : Byte) (body : List Byte) (s : State) : Host.Outcome State Fault Refusal :=
  .next (s.takeFrame l tag 0x01 (withLength 0 body State.readStatus))

/-- READ SPOT (R26). -/
def execReadSpot (l : Link) (tag : Byte) (body : List Byte) (s : State) : Host.Outcome State Fault Refusal :=
  .next (s.takeFrame l tag 0x02 (onSpot body State.readSpot))

/-- READ VESSEL (R72). -/
def execReadVessel (l : Link) (tag : Byte) (body : List Byte) (s : State) : Host.Outcome State Fault Refusal :=
  .next (s.takeFrame l tag 0x03 (withLength 1 body (withNumber (field body 0 1) State.readVessel)))

/-- READ COMPRESSOR (R92). -/
def execReadCompressor (l : Link) (tag : Byte) (body : List Byte) (s : State) : Host.Outcome State Fault Refusal :=
  .next (s.takeFrame l tag 0x04 (withLength 1 body (withNumber (field body 0 1) State.readCompressor)))

/-- READ INPUTS (R145). -/
def execReadInputs (l : Link) (tag : Byte) (body : List Byte) (s : State) : Host.Outcome State Fault Refusal :=
  .next (s.takeFrame l tag 0x05 (withLength 1 body (State.readInputs (field body 0 1))))

/-- READ TICKET (R167). -/
def execReadTicket (l : Link) (tag : Byte) (body : List Byte) (s : State) : Host.Outcome State Fault Refusal :=
  .next (s.takeFrame l tag 0x06 (withLength 0 body State.readTicket))

/-- READ SNAPSHOT (R159). -/
def execReadSnapshot (l : Link) (tag : Byte) (body : List Byte) (s : State) : Host.Outcome State Fault Refusal :=
  .next (s.takeFrame l tag 0x07 (onSpot body State.readSnapshot))

/-- READ CONFIG (R187). -/
def execReadConfig (l : Link) (tag : Byte) (body : List Byte) (s : State) : Host.Outcome State Fault Refusal :=
  .next (s.takeFrame l tag 0x08 (withLength 2 body (State.readConfig (field body 0 1) (field body 1 1))))

end Sys2Proof.Machine
end

