-- ==== Sys2Proof/Machine/SpotRequests.lean ====
section
/-! DEFINITION. The OPERATE requests aimed at a spot (chapters 1, 6 and 8). -/

namespace Sys2Proof.Machine

/-- The result code of an accepted request whose values may have been clamped. -/
def clampCode (clamped : Bool) : ResultCode := if clamped then .doneClamped else .done

/-- The phase of a spot's record, LINE_UP when it has none. -/
def State.phaseOf (s : State) (sp : SpotId) : Phase :=
  match s.recordOf sp with
  | some r => r.phase
  | none => .lineUp

/-- A spot takes a car order: in VACANT, in service, with no site trip active (R1). -/
def State.takesOrder (s : State) (sp : SpotId) : Bool :=
  decide (s.stateOf sp = .vacant) && (s.spotCfg.get sp).inService && !s.siteTrip.active

/-- CAR ORDER after the seat check (R1 to R4). -/
def State.carOrder (body : List Byte) (sp : SpotId) (s : State) : Handled :=
  if s.takesOrder sp then
    match s.parseOrder sp body with
    | some o => (s.openRecord sp o.1, answer (clampCode o.2))
    | none => s.refuse .refusedField
  else s.refuse .refusedState

/-- LIST CLEAR (R10). -/
def State.listClear (sp : SpotId) (s : State) : Handled :=
  if s.stateOf sp = .ordered then
    (s.modSpot sp (Spot.modRecord fun r => { r with order := { r.order with lineUpOverride := none } })).accept
  else s.refuse .refusedState

/-- START (R12). -/
def State.start (sp : SpotId) (s : State) : Handled :=
  if s.stateOf sp = .ready then
    (Reacted.settled ((s.modSpot sp (Spot.modRecord fun r => { r with phase := .liquid })).awaitComp sp .push)).accept
  else s.refuse .refusedState

/-- A recovery that waits or is held is given up by STOP: incomplete, with the car pressure recorded (R18, R112). -/
def State.giveUpRecovery (s : State) (sp : SpotId) : State := Reacted.settled (s.endRecovery sp true false)

/-- STOP sends a spot to SETTLING (R17, R18). -/
def State.stopToSettling (s : State) (sp : SpotId) : State := Reacted.settled (s.enterSettling sp .stopped)

/-- STOP in a state that belongs to the liquid side or to the recovery, by the phase (R18). -/
def State.stopByPhase (s : State) (sp : SpotId) : State :=
  match s.phaseOf sp with
  | .lineUp => s.stopToSettling sp
  | .liquid => s.stopToSettling sp
  | .recovery => s.giveUpRecovery sp

/-- STOP (R18). -/
def State.stop (sp : SpotId) (s : State) : Handled :=
  match s.stateOf sp with
  | .vacant => s.refuse .refusedState
  | .complete => s.refuse .refusedState
  | .tripped => s.refuse .refusedState
  | .ordered => (s.vacate sp).accept
  | .liningUp => (s.stopToSettling sp).accept
  | .ready => (s.stopToSettling sp).accept
  | .pressurising => (s.stopToSettling sp).accept
  | .transfer => (s.stopToSettling sp).accept
  | .paused _ => (s.stopToSettling sp).accept
  | .awaitCompressor => (s.stopByPhase sp).accept
  | .held => (s.stopByPhase sp).accept
  | .settling => s.accept
  | .closing => s.accept
  | .recovery => (s.giveUpRecovery sp).accept

/-- ABORT on the liquid side (R20): de-energise, end cause ABORTED, SETTLING, everything held given up at once. -/
def State.abortToSettling (s : State) (sp : SpotId) : State :=
  Reacted.settled ((s.settleSpot sp .aborted).deEnergise sp,
    [.releaseCompressor sp true, .releaseStorage sp, .overpressureTest sp])

/-- ABORT in SETTLING (R20): the spot stays there, and its settle timing runs on (R105). -/
def State.abortSettling (s : State) (sp : SpotId) : State :=
  Reacted.settled ((s.deEnergise sp).modSpot sp (Spot.modRecord fun r => { r with endCause := some .aborted }),
    [.releaseCompressor sp true, .releaseStorage sp])

/-- ABORT with a recovery due or in progress (R20, R112): incomplete, end cause ABORTED, CLOSING by the CLOSED CHECK. -/
def State.abortRecovery (s : State) (sp : SpotId) : State :=
  Reacted.settled (((s.recoveryResult sp true).modSpot sp (Spot.modRecord fun r =>
    { r with endCause := some .aborted })).enterClosing sp true)

/-- ABORT in CLOSING (R21): de-energise; the CLOSED CHECK takes the place of a close-down that has not completed. DESIGN
CHOICE (log 34): an ABORT during the CLOSED CHECK, which changes nothing in the check (R124), starts a CLOSE stroke for a
valve that has left CLOSED and has none (R126), and its disagreement timer stops. -/
def State.abortClosing (s : State) (sp : SpotId) : State :=
  if (s.spots.get sp).engine.inProgress then Reacted.settled (s.startClosedCheck sp, [.engineRun sp])
  else s.deEnergise sp

/-- ABORT in a state that belongs to the liquid side or to the recovery, by the phase (R20). -/
def State.abortByPhase (s : State) (sp : SpotId) : State :=
  match s.phaseOf sp with
  | .lineUp => s.abortToSettling sp
  | .liquid => s.abortToSettling sp
  | .recovery => s.abortRecovery sp

/-- ABORT (R20, R21). -/
def State.abort (sp : SpotId) (s : State) : Handled :=
  match s.stateOf sp with
  | .vacant => s.refuse .refusedState
  | .complete => s.refuse .refusedState
  | .tripped => s.refuse .refusedState
  | .ordered => ((s.deEnergise sp).vacate sp).accept
  | .liningUp => (s.abortToSettling sp).accept
  | .ready => (s.abortToSettling sp).accept
  | .pressurising => (s.abortToSettling sp).accept
  | .transfer => (s.abortToSettling sp).accept
  | .paused _ => (s.abortToSettling sp).accept
  | .awaitCompressor => (s.abortByPhase sp).accept
  | .held => (s.abortByPhase sp).accept
  | .settling => (s.abortSettling sp).accept
  | .recovery => (s.abortRecovery sp).accept
  | .closing => (s.abortClosing sp).accept

/-- The states in which HOLD is taken (R15). -/
def SpotState.holdable : SpotState → Bool
  | .pressurising => true
  | .transfer => true
  | .paused _ => true
  | .recovery => true
  | _ => false

/-- HOLD (R15). -/
def State.hold (sp : SpotId) (s : State) : Handled :=
  if (s.stateOf sp).holdable then (Reacted.settled (s.enterHeld sp .operator none)).accept else s.refuse .refusedState

/-- The hold cause of a spot persists (R16): a VALVE hold whose faulted valve shows neither of its proofs. -/
def State.holdPersists (s : State) (sp : SpotId) : Bool :=
  match (s.recordOf sp).bind (fun r => r.holdCause), (s.spots.get sp).faultedValve with
  | some .valve, some v => decide (s.position sp v = .travel)
  | _, _ => false

/-- Where RESUME sends a spot (R16). -/
def State.resumeByPhase (s : State) (sp : SpotId) : Reacted :=
  match s.phaseOf sp with
  | .lineUp => ((s.moveTo sp .liningUp).modSpot sp fun p => { p with engine := p.engine.resumed }, [.engineRun sp])
  | .liquid => s.awaitComp sp .push
  | .recovery => s.awaitComp sp .pull

/-- RESUME (R16). -/
def State.resume (sp : SpotId) (s : State) : Handled :=
  if s.stateOf sp = .held ∧ s.holdPersists sp = false then (Reacted.settled (s.resumeByPhase sp)).accept
  else s.refuse .refusedState

/-- SPOT RESET (R9). -/
def State.spotReset (sp : SpotId) (s : State) : Handled :=
  match s.stateOf sp with
  | .ordered => (s.vacate sp).accept
  | .complete => (s.moveTo sp .vacant).accept
  | _ => s.refuse .refusedState

/-- The checks of SPOT TRIP RESET after the seat (R156). -/
def State.tripResettable (s : State) (sp : SpotId) : Bool :=
  decide (s.stateOf sp = .tripped) && !s.siteTrip.active && !s.reading (.spot sp .spotEsd) && !s.destinationHigh sp

/-- SPOT TRIP RESET (R156). -/
def State.spotTripReset (sp : SpotId) (s : State) : Handled :=
  if s.tripResettable sp then (Reacted.settled (s.enterClosing sp false)).accept else s.refuse .refusedState

/-- The states in which VALVE COMMAND is taken (R127). -/
def SpotState.valveCommandable : SpotState → Bool
  | .vacant => true
  | .ordered => true
  | .ready => true
  | .complete => true
  | _ => false

/-- VALVE COMMAND with its fields read (R127, checks 3 and 4). -/
def State.commandValve (sp : SpotId) (v : Valve) (a : Action) (s : State) : Handled :=
  if (s.spots.get sp).engine.inProgress then (s.latchSpot sp .sequenceConflict, answer .refusedBusy)
  else if (s.stateOf sp).valveCommandable && (s.spotCfg.get sp).inService && !s.siteTrip.active then
    (s.demand sp v a .valveCommand).accept
  else s.refuse .refusedState

/-- VALVE COMMAND after the seat check (R127). -/
def State.valveCommand (valve action : Nat) (sp : SpotId) (s : State) : Handled :=
  match listValve valve, actionOf action with
  | some v, some a => s.commandValve sp v a
  | _, _ => s.refuse .refusedField

/-- The states in which a seat may be taken (R25). -/
def SpotState.seatFree : SpotState → Bool
  | .vacant => true
  | .ordered => true
  | .ready => true
  | .held => true
  | .complete => true
  | _ => false

/-- A spot's seat becomes a link's. -/
def State.giveSeat (s : State) (sp : SpotId) (l : Link) : State := s.modSpot sp fun p => { p with seat := l }

/-- SEAT TAKE (R25). -/
def State.seatTake (l : Link) (sp : SpotId) (s : State) : Handled :=
  if (s.stateOf sp).seatFree then (s.giveSeat sp l).accept else s.refuse .refusedBusy

/-- SEAT YIELD from the seat holder (R25). -/
def State.seatYield (sp : SpotId) (s : State) : Handled := (s.giveSeat sp .supervisory).accept

/-- CAR ORDER (R1 to R4). -/
def execCarOrder (l : Link) (tag : Byte) (body : List Byte) (s : State) : Host.Outcome State Fault Refusal :=
  .next (s.takeFrame l tag 0x10 fun s =>
    if orderShape body then withNumber (field body 0 1) (fun sp => withSeat l sp (State.carOrder body sp)) s
    else s.refuse .refusedField)

/-- LIST CLEAR (R10). -/
def execListClear (l : Link) (tag : Byte) (body : List Byte) (s : State) : Host.Outcome State Fault Refusal :=
  .next (s.takeFrame l tag 0x11 (onSeatedSpot l body State.listClear))

/-- START (R12). -/
def execStart (l : Link) (tag : Byte) (body : List Byte) (s : State) : Host.Outcome State Fault Refusal :=
  .next (s.takeFrame l tag 0x12 (onSeatedSpot l body State.start))

/-- STOP, from either link (R18). -/
def execStop (l : Link) (tag : Byte) (body : List Byte) (s : State) : Host.Outcome State Fault Refusal :=
  .next (s.takeFrame l tag 0x13 (onSpot body State.stop))

/-- ABORT, from either link (R20, R21). -/
def execAbort (l : Link) (tag : Byte) (body : List Byte) (s : State) : Host.Outcome State Fault Refusal :=
  .next (s.takeFrame l tag 0x14 (onSpot body State.abort))

/-- HOLD, from either link (R15). -/
def execHold (l : Link) (tag : Byte) (body : List Byte) (s : State) : Host.Outcome State Fault Refusal :=
  .next (s.takeFrame l tag 0x15 (onSpot body State.hold))

/-- RESUME (R16). -/
def execResume (l : Link) (tag : Byte) (body : List Byte) (s : State) : Host.Outcome State Fault Refusal :=
  .next (s.takeFrame l tag 0x16 (onSeatedSpot l body State.resume))

/-- SPOT RESET (R9). -/
def execSpotReset (l : Link) (tag : Byte) (body : List Byte) (s : State) : Host.Outcome State Fault Refusal :=
  .next (s.takeFrame l tag 0x17 (onSeatedSpot l body State.spotReset))

/-- SPOT TRIP RESET (R156). -/
def execSpotTripReset (l : Link) (tag : Byte) (body : List Byte) (s : State) : Host.Outcome State Fault Refusal :=
  .next (s.takeFrame l tag 0x18 (onSeatedSpot l body State.spotTripReset))

/-- VALVE COMMAND (R127). -/
def execValveCommand (l : Link) (tag : Byte) (body : List Byte) (s : State) : Host.Outcome State Fault Refusal :=
  .next (s.takeFrame l tag 0x19 (withLength 3 body (withNumber (field body 0 1) fun sp =>
    withSeat l sp (State.valveCommand (field body 1 1) (field body 2 1) sp))))

/-- SEAT TAKE, from either link (R25). -/
def execSeatTake (l : Link) (tag : Byte) (body : List Byte) (s : State) : Host.Outcome State Fault Refusal :=
  .next (s.takeFrame l tag 0x1A (onSpot body (State.seatTake l)))

/-- SEAT YIELD, from the seat holder (R25). -/
def execSeatYield (l : Link) (tag : Byte) (body : List Byte) (s : State) : Host.Outcome State Fault Refusal :=
  .next (s.takeFrame l tag 0x1B (onSeatedSpot l body State.seatYield))

end Sys2Proof.Machine
end

