-- ==== Sys2Proof/Machine/UnitRequests.lean ====
section
/-! DEFINITION. The requests not aimed at a spot: compressors, vessels, tickets, latches, the site trip, bypasses, the clock,
the lock, the restart request and authentication. -/

namespace Sys2Proof.Machine

/-! ### Compressors (R82, R83) -/

/-- COMPRESSOR RESET (R82). -/
def State.compressorReset (c : CompId) (s : State) : Handled :=
  if (s.comps.get c).state = .fault ∧ s.reading (.comp c .fault) = false then
    (Reacted.settled (s.modComp c Comp.enterIdle, [.arbiter])).accept
  else s.refuse .refusedState

/-- A compressor and its retained service state (R83). -/
def State.setService (s : State) (c : CompId) (inService : Bool) (st : CompState) : State :=
  ({ s with compService := s.compService.set c inService } : State).modComp c fun x =>
    { x with state := st, assigned := none, timer := none }

/-- COMPRESSOR SERVICE OUT (R83). -/
def State.serviceOut (c : CompId) (s : State) : Handled :=
  match (s.comps.get c).state with
  | .idle => (s.setService c false .outOfService).accept
  | .fault => (s.setService c false .outOfService).accept
  | .outOfService => s.accept
  | _ => s.refuse .refusedState

/-- COMPRESSOR SERVICE IN (R83). -/
def State.serviceIn (c : CompId) (s : State) : Handled :=
  if (s.comps.get c).state = .outOfService then
    if s.reading (.comp c .fault) then s.refuse .refusedState
    else (Reacted.settled (s.setService c true .idle, [.arbiter])).accept
  else s.accept

/-- COMPRESSOR SERVICE by its service code (section 10.6). -/
def State.compressorService (code : Nat) (c : CompId) (s : State) : Handled :=
  match flagOf code with
  | some false => s.serviceOut c
  | some true => s.serviceIn c
  | none => s.refuse .refusedField

/-! ### Vessels and tickets (R54, R168) -/

/-- TANK ULLAGE (R54): U replaced; for a vessel in service the age starts, STALE clears and the grant pass runs. -/
def State.tankUllage (kg : Nat) (v : VesselId) (s : State) : Handled :=
  let amount := min kg Config.ullageMax
  let code := clampCode (decide (Config.ullageMax < kg))
  if (s.vesselCfg.get v).inService then
    (Reacted.settled (s.modVessel v (Vessel.report amount (s.vesselCfg.get v).ageLimit), [.grantPass v]), answer code)
  else (s.modVessel v fun x => { x with ullage := amount }, answer code)

/-- RELEASE TICKET (R168). -/
def State.releaseTicket (number : Nat) (s : State) : Handled :=
  if within 1 Config.ticketNumberMax number then
    match s.tickets with
    | [] => s.refuse .refusedEmpty
    | t :: rest =>
      if t.number = number then (Reacted.settled ({ s with tickets := rest }, [.serveTickets])).accept
      else s.refuse .refusedMismatch
  else s.refuse .refusedField

/-! ### Latches and masks (R183, R184) -/

/-- Two words name only positions of the latch table (R183, R184). -/
def kindsExist (unitWord spotWord : Word) : Bool := (unitWord &&& ~~~unitKinds) == 0 && (spotWord &&& ~~~spotKinds) == 0

/-- CLEAR LATCHES (R183). -/
def State.clearLatches (unitWord spotWord : Word) (spots : Byte) (s : State) : Handled :=
  if kindsExist unitWord spotWord then
    ({ s with latches := (s.latches.clearUnit unitWord).clearSpots spotWord spots } : State).accept
  else s.refuse .refusedField

/-- SET MASK (R184). -/
def State.setMask (unitWord spotWord : Word) (s : State) : Handled :=
  if kindsExist unitWord spotWord then ({ s with unitMask := unitWord, spotMask := spotWord } : State).accept
  else s.refuse .refusedField

/-- A 16-bit field as a word. -/
def wordField (body : List Byte) (offset : Nat) : Word := BitVec.ofNat 16 (field body offset 2)

/-! ### The site trip (R149, R152) -/

/-- SITE TRIP (R149). -/
def State.siteTripRequest (l : Link) (s : State) : Handled :=
  (Reacted.settled (s, [.siteCause (.request l)])).accept

/-- The site trip may be reset: active, no ESD active, the gas count below the vote (R152). -/
def State.siteResettable (s : State) : Bool := s.siteTrip.active && !s.anyEsd && decide (s.gasCount < s.unit.gasVote)

/-- SITE TRIP RESET (R152). -/
def State.siteTripReset (s : State) : Handled :=
  if s.siteResettable then (Reacted.settled ({ s with siteTrip := SiteTripState.blank }, [.arbiter])).accept
  else s.refuse .refusedState

/-! ### Bypasses (R141 to R144) -/

/-- The reaction of a function's user when a function reads otherwise after a change than before it (R135). -/
def readingChange (before after : State) (f : FieldFn) : List Reaction :=
  if before.reading f = after.reading f then [] else [.functionChanged f (after.reading f)]

/-- A change of the bypass table with the reaction of the function's user (R135). -/
def State.rebypassed (s : State) (sp : SpotId) (f : BypassFn) (table : List Bypass) : State :=
  let s1 : State := { s with bypasses := table }
  Reacted.settled (s1, readingChange s s1 (.spot sp (bypassSpotFn f)))

/-- The bypass table without the record of a spot's function. -/
def State.withoutBypass (s : State) (sp : SpotId) (f : BypassFn) : List Bypass :=
  s.bypasses.filter fun b => !(decide (b.spot = sp) && decide (b.function = f))

/-- BYPASS SET with its fields read (R141, checks 2 to 4). -/
def State.setBypass (l : Link) (sp : SpotId) (f : BypassFn) (minutes : Nat) (s : State) : Handled :=
  if (s.spotCfg.get sp).inService then
    match s.bypassOf sp f with
    | some _ =>
      ({ s with
          bypasses := s.bypasses.map fun b =>
            if b.spot = sp ∧ b.function = f then { b with remaining := seconds (60 * minutes), link := l } else b } :
        State).accept
    | none =>
      if s.bypasses.length < Config.bypassCapacity then
        (s.rebypassed sp f (s.bypasses ++ [⟨sp, f, seconds (60 * minutes), l⟩])).accept
      else s.refuse .refusedFull
  else s.refuse .refusedState

/-- BYPASS SET (R141). -/
def State.bypassSet (l : Link) (spot function minutes : Nat) (s : State) : Handled :=
  match oneBased 8 spot, bypassFnOf function with
  | some sp, some f => if within 1 480 minutes then s.setBypass l sp f minutes else s.refuse .refusedField
  | _, _ => s.refuse .refusedField

/-- BYPASS END (R143): a record of the supervisory link is not ended from the panel. -/
def State.bypassEnd (l : Link) (spot function : Nat) (s : State) : Handled :=
  match oneBased 8 spot, bypassFnOf function with
  | some sp, some f =>
    match s.bypassOf sp f with
    | none => s.refuse .refusedEmpty
    | some b =>
      if b.link = .supervisory ∧ l = .panel then s.refuse .refusedSeat
      else (s.rebypassed sp f (s.withoutBypass sp f)).accept
  | _, _ => s.refuse .refusedField

/-! ### Clock, lock and restart (R192 to R194) -/

/-- SET CLOCK (R193). -/
def State.setClock (n : Nat) (s : State) : Handled :=
  if n = 0 then s.refuse .refusedField else ({ s with clock := some n } : State).accept

/-- LOCK METROLOGY (R192). -/
def State.lockMetrology (s : State) : Handled :=
  match s.lock with
  | .none => ({ s with lock := .pending } : State).accept
  | .pending => s.accept
  | .effective => s.accept

/-- RESTART: answered DONE; the restart follows the reply's last byte (R177, R194). -/
def State.restartRequest (s : State) : Handled := (s, ⟨.done, .none, .restart⟩)

/-! ### Authentication (R179 to R181) -/

/-- A link's authentication is set or ended. -/
def State.setAuth (s : State) (l : Link) (b : Bool) : State := s.modLink l fun u => { u with authenticated := b }

/-- The failure count reaches a nonzero attempt limit: the lockout flag is set and AUTH_LOCKOUT latched (R180). -/
def State.lockoutIf (s : State) (reached : Bool) : State :=
  if reached then ({ s with lockout := true } : State).latchAuthLockout else s

/-- A failed AUTHENTICATE (R179, R180). -/
def State.authFailure (s : State) (l : Link) : State :=
  let n := min (s.failures + 1) Config.u8Max
  (({ s with failures := n } : State).setAuth l false).lockoutIf
    (decide (s.unit.attemptLimit ≠ 0) && decide (s.unit.attemptLimit ≤ n))

/-- AUTHENTICATE (R179). -/
def State.authenticate (l : Link) (code : Nat) (s : State) : Handled :=
  if s.lockout then s.refuse .refusedLocked
  else if code = s.unit.supervisorCode then (({ s with failures := 0 } : State).setAuth l true).accept
  else (s.authFailure l).refuse .refusedAuth

/-- DEAUTHENTICATE (R181). -/
def State.deauthenticate (l : Link) (s : State) : Handled := (s.setAuth l false).accept

/-! ### The commands -/

/-- COMPRESSOR RESET, from either link (R82). -/
def execCompressorReset (l : Link) (tag : Byte) (body : List Byte) (s : State) : Host.Outcome State Fault Refusal :=
  .next (s.takeFrame l tag 0x1C (withLength 1 body (withNumber (field body 0 1) State.compressorReset)))

/-- TANK ULLAGE, from the supervisory link (R54). -/
def execTankUllage (l : Link) (tag : Byte) (body : List Byte) (s : State) : Host.Outcome State Fault Refusal :=
  .next (s.takeFrame l tag 0x1D (withLength 5 body (withNumber (field body 0 1) fun v =>
    withSupervisory l (State.tankUllage (field body 1 4) v))))

/-- RELEASE TICKET, from the supervisory link (R168). -/
def execReleaseTicket (l : Link) (tag : Byte) (body : List Byte) (s : State) : Host.Outcome State Fault Refusal :=
  .next (s.takeFrame l tag 0x1E (withLength 4 body (withSupervisory l (State.releaseTicket (field body 0 4)))))

/-- CLEAR LATCHES, from either link (R183). -/
def execClearLatches (l : Link) (tag : Byte) (body : List Byte) (s : State) : Host.Outcome State Fault Refusal :=
  .next (s.takeFrame l tag 0x1F (withLength 5 body
    (State.clearLatches (wordField body 0) (wordField body 2) (BitVec.ofNat 8 (field body 4 1)))))

/-- SET MASK, from either link (R184). -/
def execSetMask (l : Link) (tag : Byte) (body : List Byte) (s : State) : Host.Outcome State Fault Refusal :=
  .next (s.takeFrame l tag 0x20 (withLength 4 body (State.setMask (wordField body 0) (wordField body 2))))

/-- SITE TRIP, from either link (R149). -/
def execSiteTrip (l : Link) (tag : Byte) (body : List Byte) (s : State) : Host.Outcome State Fault Refusal :=
  .next (s.takeFrame l tag 0x21 (withLength 0 body (State.siteTripRequest l)))

/-- BYPASS SET (R141). -/
def execBypassSet (l : Link) (tag : Byte) (body : List Byte) (s : State) : Host.Outcome State Fault Refusal :=
  .next (s.takeFrame l tag 0x32 (withLength 4 body (withAuthentication l
    (State.bypassSet l (field body 0 1) (field body 1 1) (field body 2 2)))))

/-- BYPASS END (R143). -/
def execBypassEnd (l : Link) (tag : Byte) (body : List Byte) (s : State) : Host.Outcome State Fault Refusal :=
  .next (s.takeFrame l tag 0x33 (withLength 2 body (withAuthentication l
    (State.bypassEnd l (field body 0 1) (field body 1 1)))))

/-- COMPRESSOR SERVICE (R83). -/
def execCompressorService (l : Link) (tag : Byte) (body : List Byte) (s : State) : Host.Outcome State Fault Refusal :=
  .next (s.takeFrame l tag 0x34 (withLength 2 body (withNumber (field body 0 1) fun c =>
    withAuthentication l (State.compressorService (field body 1 1) c))))

/-- SITE TRIP RESET (R152). -/
def execSiteTripReset (l : Link) (tag : Byte) (body : List Byte) (s : State) : Host.Outcome State Fault Refusal :=
  .next (s.takeFrame l tag 0x35 (withLength 0 body (withAuthentication l State.siteTripReset)))

/-- SET CLOCK (R193). -/
def execSetClock (l : Link) (tag : Byte) (body : List Byte) (s : State) : Host.Outcome State Fault Refusal :=
  .next (s.takeFrame l tag 0x36 (withLength 4 body (withAuthentication l (State.setClock (field body 0 4)))))

/-- LOCK METROLOGY (R192). -/
def execLockMetrology (l : Link) (tag : Byte) (body : List Byte) (s : State) : Host.Outcome State Fault Refusal :=
  .next (s.takeFrame l tag 0x37 (withLength 0 body (withAuthentication l State.lockMetrology)))

/-- RESTART (R194). -/
def execRestart (l : Link) (tag : Byte) (body : List Byte) (s : State) : Host.Outcome State Fault Refusal :=
  .next (s.takeFrame l tag 0x38 (withLength 0 body (withAuthentication l State.restartRequest)))

/-- AUTHENTICATE (R179, R180). -/
def execAuthenticate (l : Link) (tag : Byte) (body : List Byte) (s : State) : Host.Outcome State Fault Refusal :=
  .next (s.takeFrame l tag 0x40 (withLength 4 body (State.authenticate l (field body 0 4))))

/-- DEAUTHENTICATE (R181). -/
def execDeauthenticate (l : Link) (tag : Byte) (body : List Byte) (s : State) : Host.Outcome State Fault Refusal :=
  .next (s.takeFrame l tag 0x41 (withLength 0 body (State.deauthenticate l)))

end Sys2Proof.Machine
end

