-- ==== Sys2Proof/Machine/Settings.lean ====
section
/-! DEFINITION. The settings store (chapter 11): CONFIGURE for every target, and LIST LOAD. -/

namespace Sys2Proof.Machine

/-! ### Unit (R191, R148, R180) -/

/-- A stored attempt limit acts on the failure count (R180): a nonzero limit at or below the count locks out at it. -/
def State.limitChanged (s : State) : State :=
  if s.unit.attemptLimit ≠ 0 ∧ s.unit.attemptLimit ≤ s.failures then
    ({ s with failures := s.unit.attemptLimit } : State).lockoutIf true
  else s

/-- CONFIGURE unit: accepted in every state; the attempt limit acts on the failure count, a changed gas vote is taken at
once (R148, R180, R191). -/
def State.configureUnit (record : List Byte) (s : State) : Handled :=
  match parseUnit record with
  | none => s.refuse .refusedField
  | some u =>
    let s1 := ({ s with unit := u } : State).limitChanged
    (Reacted.settled (s1,
      if u.gasVote ≠ s.unit.gasVote ∧ s1.gasVoteMet = true then [.siteCause .gasVote] else [])).accept

/-! ### Spot (R189, R190, R192) -/

/-- All sixteen functions of a spot are on lines (R133). -/
def State.allMapped (s : State) (sp : SpotId) : Bool := (functionsOfSpot sp).all s.mapped

/-- The custody parameters of two spot records agree (R192). -/
def SpotCfg.sameCustody (a b : SpotCfg) : Bool :=
  decide (a.kFactor = b.kFactor) && decide (a.meterFactor = b.meterFactor) && decide (a.flowOn = b.flowOn) &&
    decide (a.flowOff = b.flowOff) && decide (a.mismatchThreshold = b.mismatchThreshold)

/-- A spot record is stored: the ladder step is kept at or above the new floor (R95), and a change of service acts on the
valves (R114, R190). -/
def State.storeSpot (s : State) (sp : SpotId) (c : SpotCfg) : State :=
  let s1 := ({ s with spotCfg := s.spotCfg.set sp c } : State).modSpot sp
    (Spot.modDriver fun d => { d with step := max d.step c.floorStep })
  if c.inService then
    if (s.spotCfg.get sp).inService then s1 else s1.valvesInService sp
  else s1.valvesOutOfService sp

/-- CONFIGURE spot (R189, R190, R192). -/
def State.configureSpot (sp : SpotId) (record : List Byte) (s : State) : Handled :=
  match parseSpot record with
  | none => s.refuse .refusedField
  | some c =>
    if c.inService && !s.allMapped sp then s.refuse .refusedField
    else if s.lock = .effective ∧ c.sameCustody (s.spotCfg.get sp) = false then s.refuse .refusedLocked
    else if s.stateOf sp = .vacant then (s.storeSpot sp c).accept
    else s.refuse .refusedState

/-! ### Product, vessel, compressor, link and scaling (R189, R191, R192) -/

/-- The effective lock holds a product entry against a new one (R192): a configured entry against every change, one that is
not configured against every change but being configured (log 21). -/
def ProductCfg.heldAgainst (old new : ProductCfg) : Bool :=
  decide (new ≠ old) && (old.configured || !new.configured)

/-- CONFIGURE product (R191, R192). -/
def State.configureProduct (p : ProductId) (record : List Byte) (s : State) : Handled :=
  match parseProduct record with
  | none => s.refuse .refusedField
  | some c =>
    if s.lock = .effective ∧ (s.products.get p).heldAgainst c = true then s.refuse .refusedLocked
    else if s.productInUse p then s.refuse .refusedState
    else ({ s with products := s.products.set p c } : State).accept

/-- A vessel record takes the vessel out of service or puts it in (R71). -/
def Vessel.serviceChanged (inService : Bool) (v : Vessel) : Vessel :=
  if inService then v else { v with stale := true, age := none }

/-- CONFIGURE vessel (R191, R71). -/
def State.configureVessel (v : VesselId) (record : List Byte) (s : State) : Handled :=
  match parseVessel record with
  | none => s.refuse .refusedField
  | some c =>
    if (s.vesselCfg.get v).inService && s.vesselInUse v then s.refuse .refusedState
    else
      let s1 := ({ s with vesselCfg := s.vesselCfg.set v c } : State).modVessel v (Vessel.serviceChanged c.inService)
      (Reacted.settled (s1, if c.inService && !(s.vesselCfg.get v).inService then [.grantPass v] else [])).accept

/-- The states in which a compressor record is accepted (R191). -/
def CompState.configurable : CompState → Bool
  | .outOfService => true
  | .idle => true
  | .fault => true
  | _ => false

/-- CONFIGURE compressor (R191). -/
def State.configureCompressor (c : CompId) (record : List Byte) (s : State) : Handled :=
  match parseComp record with
  | none => s.refuse .refusedField
  | some x =>
    if (s.comps.get c).state.configurable then ({ s with compCfg := s.compCfg.set c x } : State).accept
    else s.refuse .refusedState

/-- CONFIGURE link: stored, and in force from the reply's last byte (R174, R191). -/
def State.configureLink (l : Link) (record : List Byte) (s : State) : Handled :=
  match parseLink record with
  | none => s.refuse .refusedField
  | some c => ({ s with linkCfg := s.linkCfg.set (linkIndex l) c }, ⟨.done, .none, .applyLink l c⟩)

/-- CONFIGURE analog scaling: from the next conversion (R138, R191). -/
def State.configureScaling (ch : ChannelId) (record : List Byte) (s : State) : Handled :=
  match parseScale ch record with
  | none => s.refuse .refusedField
  | some c => ({ s with scaling := s.scaling.set ch c } : State).accept

/-! ### Input map line (R134) -/

/-- Only the edge choice differs (R134). DESIGN CHOICE (log 40): a record in which nothing differs counts so too. -/
def LineCfg.edgeOnly (a b : LineCfg) : Bool :=
  decide (a.function = b.function) && decide (a.activeLevel = b.activeLevel) && decide (a.filterTime = b.filterTime)

/-- A function is on a line other than the given one (R134, check 2). -/
def State.mappedElsewhere (s : State) (i : LineId) (f : FieldFn) : Bool :=
  (List.finRange 160).any fun j => !decide (j = i) && decide ((s.lineCfg.get j).function = some f)

/-- The new function of a line is already on another line (R134, check 2). -/
def State.functionTaken (s : State) (i : LineId) (new : LineCfg) : Bool :=
  match new.function with
  | some f => s.mappedElsewhere i f
  | none => false

/-- The change leaves a function of a spot in service without a line (R134, check 3). -/
def State.orphansService (s : State) (i : LineId) (new : LineCfg) : Bool :=
  match (s.lineCfg.get i).function with
  | some (.spot sp f) => (s.spotCfg.get sp).inService && !decide (new.function = some (.spot sp f))
  | _ => false

/-- A function may be touched by a change of the map (R134, check 4). -/
def State.touchable (s : State) : FieldFn → Bool
  | .spot sp _ => decide (s.stateOf sp = .vacant)
  | .comp c _ => decide ((s.comps.get c).state = .outOfService)
  | .highLevel v => !(s.vesselCfg.get v).inService
  | .esd _ => s.siteTrip.active
  | .gas _ => s.siteTrip.active

/-- The functions that a change of a line touches: its old one and its new one (R134). -/
def touchedFunctions (old new : LineCfg) : List FieldFn :=
  if old.function = new.function then old.function.toList else old.function.toList ++ new.function.toList

/-- A line record is stored; a change of value so caused reaches the function's user and sets no INPUT_EDGE (R134). DESIGN
CHOICE (log 35): of two changes so caused the old function's comes first, and both readings stand when it is taken. -/
def State.storeLine (s : State) (i : LineId) (new : LineCfg) : State :=
  let s1 : State := { s with lineCfg := s.lineCfg.set i new }
  Reacted.settled (s1, (touchedFunctions (s.lineCfg.get i) new).flatMap (readingChange s s1))

/-- CONFIGURE input map line (R134). -/
def State.configureLine (i : LineId) (record : List Byte) (s : State) : Handled :=
  match parseLine record with
  | none => s.refuse .refusedField
  | some new =>
    if (s.lineCfg.get i).edgeOnly new then ({ s with lineCfg := s.lineCfg.set i new } : State).accept
    else if s.functionTaken i new then s.refuse .refusedField
    else if s.orphansService i new then s.refuse .refusedField
    else if (touchedFunctions (s.lineCfg.get i) new).all s.touchable then (s.storeLine i new).accept
    else s.refuse .refusedState

/-! ### Lists (R120) -/

/-- A list is stored. -/
def State.storeList (s : State) (sp : SpotId) (lineUp : Bool) (steps : List ListStep) : State :=
  if lineUp then { s with lineUp := s.lineUp.set sp steps } else { s with closeDown := s.closeDown.set sp steps }

/-- LIST LOAD after the decoder's checks: fields, then state (R120). -/
def State.loadList (sp : SpotId) (lineUp : Bool) (steps : List Byte) (s : State) : Handled :=
  match stepsOf steps with
  | none => s.refuse .refusedField
  | some l => if s.stateOf sp = .vacant then (s.storeList sp lineUp l).accept else s.refuse .refusedState

/-- LIST LOAD by its list code: 1 line-up, 2 close-down (section 10.6). -/
def State.listLoad (list : Nat) (steps : List Byte) (sp : SpotId) (s : State) : Handled :=
  match list with
  | 1 => s.loadList sp true steps
  | 2 => s.loadList sp false steps
  | _ => s.refuse .refusedField

/-! ### The commands -/

/-- CONFIGURE by its target, the record being the bytes after the target and index (R189). -/
def State.configure (t : Target) (record : List Byte) (s : State) : Handled :=
  match t with
  | .unit => s.configureUnit record
  | .spot sp => s.configureSpot sp record
  | .product p => s.configureProduct p record
  | .vessel v => s.configureVessel v record
  | .compressor c => s.configureCompressor c record
  | .line i => s.configureLine i record
  | .lineUp sp => s.loadList sp true (record.drop 1)
  | .closeDown sp => s.loadList sp false (record.drop 1)
  | .link l => s.configureLink l record
  | .scaling ch => s.configureScaling ch record

/-- CONFIGURE of the target that the codes name (R189). -/
def State.configureTarget (code index : Nat) (record : List Byte) (s : State) : Handled :=
  match targetOf code index with
  | some t => s.configure t record
  | none => s.refuse .refusedField

/-- CONFIGURE (R189 to R192). -/
def execConfigure (l : Link) (tag : Byte) (body : List Byte) (s : State) : Host.Outcome State Fault Refusal :=
  .next (s.takeFrame l tag 0x30 fun s =>
    if configShape body then
      withAuthentication l (State.configureTarget (field body 0 1) (field body 1 1) (body.drop 2)) s
    else s.refuse .refusedField)

/-- LIST LOAD (R120). -/
def execListLoad (l : Link) (tag : Byte) (body : List Byte) (s : State) : Host.Outcome State Fault Refusal :=
  .next (s.takeFrame l tag 0x31 fun s =>
    if listShape body then
      withNumber (field body 0 1) (fun sp => withAuthentication l (State.listLoad (field body 1 1) (body.drop 3) sp)) s
    else s.refuse .refusedField)

end Sys2Proof.Machine
end

