-- ==== Sys2Proof/Machine/Restart.lean ====
section
/-! DEFINITION. Restart (section 11.4 and the last rule of each chapter): what survives, and the state each block takes from
retained storage and from the first presentation of the inputs. -/

namespace Sys2Proof.Machine

/-- A spot without anything but its totaliser and its retained record (R27, R195). -/
def Spot.wiped (floor : Nat) (p : Spot) : Spot :=
  Spot.blank floor p.meter.totaliser p.meter.totaliserGrams p.retained

/-- Everything that is not in retained storage is gone (R194, R195). The settings, the lock, the queue and counter of
tickets, the pending order, the compressor service states, the totalisers and the retained records stay, and so do the
levels on the discrete lines, which are the field's. -/
def State.wiped (s : State) : State :=
  { s with
    clock := none
    spots := Bank.ofFn fun sp => (s.spots.get sp).wiped (s.spotCfg.get sp).floorStep
    vessels := Bank.fill 4 Vessel.blank
    comps := Bank.fill 3 Comp.blank
    queue := []
    lines := s.lines.map fun l => { l with filtered := l.raw, candidate := none }
    analog := Bank.fill 20 AnalogChannel.blank
    bypasses := []
    siteTrip := SiteTripState.blank
    links := s.linkCfg.map LinkUnit.blank
    failures := 0
    lockout := false
    latches := Latches.blank }

/-- The supply is off: everything volatile is gone and every output is off (R185, R194). -/
def State.unpowered (s : State) : State := { s.wiped with powered := false }

/-- A pending lock becomes effective at a restart (R192). -/
def MetrologyLock.restarted : MetrologyLock → MetrologyLock
  | .none => .none
  | .pending => .effective
  | .effective => .effective

/-- The site trip state from the first presentation of the inputs (R160). -/
def State.siteTripAtRestart (s : State) : SiteTripState where
  active := s.anyEsd || decide (s.unit.gasVote ≤ s.gasCount)
  esd := Bank.ofFn fun i => s.reading (.esd i)
  gasVote := decide (s.unit.gasVote ≤ s.gasCount)
  requestSupervisory := false
  requestPanel := false

/-- The site trip at restart, with its latch (R160). -/
def State.restartSite (s : State) : State :=
  let s1 : State := { s with siteTrip := s.siteTripAtRestart }
  if s1.siteTrip.active then s1.latchSiteTrip else s1

/-- A compressor at restart, with its latch (R93). -/
def State.restartComp (s : State) (c : CompId) : State :=
  let s1 := s.modComp c fun _ =>
    Comp.restarted (s.compService.get c) (s.reading (.comp c .running)) (s.reading (.comp c .fault)) (s.provenOf c)
  if (s1.comps.get c).state = .fault then s1.latchCompFault c else s1

/-- The retained record of a spot, if it earns a ticket (R27). -/
def State.restorable (s : State) (sp : SpotId) : Option Retained :=
  match (s.spots.get sp).retained with
  | some k => if k.record.earnsTicket then some k else none
  | none => none

/-- The record that a spot restored at restart opens with (R27): ticket pending, the hold cause absent, the end cause kept
by a record that was in the pending order and otherwise RESTART. -/
def Record.restored (wasPending : Bool) (r : Record) : Record :=
  { r with
    holdCause := none
    ticketPending := true
    endCause := if wasPending then r.endCause else some .restart }

/-- The meter channel of a restored record (R52). -/
def Meter.restored (k : Retained) (vapour : Bool) (m : Meter) : Meter :=
  { m with window := some Config.windowMs, vapourSeen := vapour, primary := k.primary, health := k.health }

/-- A spot at restart (R27, R52, R129): CLOSING with its retained record, or VACANT; its valves not proven closed begin CLOSE
strokes if it is in service. -/
def State.restartSpot (s : State) (sp : SpotId) : State :=
  let s1 := s.deEnergise sp
  match s.restorable sp with
  | none => s1.modSpot sp fun p => { p with retained := none }
  | some k =>
    let r := k.record.restored (s.inPending sp)
    let ready := s.pendingOrder.any fun e => decide (e.spot = sp) && e.ready
    s1.modSpot sp fun p =>
      { p with
        state := .closing
        record := some r
        meter := p.meter.restored k (s.reading (.spot sp .vapourInLine))
        engine := if ready then .idle else .closedCheck
        retained := some ⟨r, k.primary, k.health⟩ }

/-- The pending order at restart (R172): the records already pending in their order, then the others in spot order, not
ready. -/
def State.pendingAtRestart (s : State) : List PendingEntry :=
  s.pendingOrder.filter (fun e => (s.restorable e.spot).isSome) ++
    (allSpots.filter (fun sp => (s.restorable sp).isSome && !s.inPending sp)).map (fun sp => ⟨sp, false⟩)

/-- The trip of a spot that enters CLOSING at restart (R160): SITE while the site trip is active, otherwise the held
conditions of R153. -/
def State.restartTrip (s : State) (sp : SpotId) : State :=
  if s.stateOf sp = .closing then
    if s.siteTrip.active then s.tripSpot sp .site
    else
      match s.entryTripCause sp with
      | some cause => s.tripSpot sp cause
      | none => s
  else s

/-- The spots' part of a restart: the pending order, their restart states, then the trips (R27, R160, R172). -/
def State.restartSpots (s : State) : State :=
  allSpots.foldl State.restartTrip
    { allSpots.foldl State.restartSpot s with pendingOrder := s.pendingAtRestart }

/-- The restart (R194): the inputs first, the trip logic before the spots, the compressors, the spots, then the CLOSED
CHECKs that are complete at once and the ticket store's serving; RESTARTED and CLOCK_NOT_SET are latched. -/
def State.restart (s : State) : State :=
  let s1 : State := { s.wiped with powered := true, lock := s.lock.restarted }
  let s2 := (allComps.foldl State.restartComp s1.restartSite).restartSpots
  Reacted.settled (s2.latchRestarted, allSpots.map .engineRun ++ [.serveTickets])

/-- POWER_UP: the supply returns (R194). -/
def execPowerUp (s : State) : Host.Outcome State Fault Refusal := .next s.restart

/-- SUPPLY_LOSS: all activity ends, and only retained storage survives (R194, R195). -/
def execSupplyLoss (s : State) : Host.Outcome State Fault Refusal := .next s.unpowered

end Sys2Proof.Machine
end

