-- ==== Sys2Proof/Machine/LinkEvents.lean ====
section
/-! DEFINITION. The events of a link's receiver and exchange (section 10.1). With the supply off no link receives or sends. -/

namespace Sys2Proof.Machine

/-- The unit address a frame in progress is received with: the one that stood at its marker, otherwise the one in force
(R174). -/
def LinkUnit.frameAddress (u : LinkUnit) : Byte :=
  match u.rx with
  | .frame a _ _ => a
  | .hunt => u.inForce.address
  | .discard => u.inForce.address

/-- What a receiver becomes when it drops the bytes of a frame (R175); bytes that do not make it drop a frame leave it as it
is. -/
def LinkUnit.dropped (bytes : List Byte) (u : LinkUnit) : LinkUnit :=
  match u.rx, judgeFrame u.frameAddress bytes with
  | .discard, _ => u
  | _, .oversize => { u with rx := .discard }
  | _, .badAddress => { u with rx := .hunt }
  | _, .badCheck => { u with rx := .hunt }
  | _, .incomplete => u
  | _, .valid _ _ _ => u

/-- A frame in progress is a frame whose marker arrived while the exchange was BUSY (R176). -/
def LinkUnit.inOverrun (u : LinkUnit) : Bool :=
  match u.rx, u.exchange with
  | .frame _ true _, _ => true
  | .frame _ false _, .busy _ _ => true
  | .frame _ false _, .idle => false
  | .hunt, .busy _ _ => true
  | .hunt, .idle => false
  | .discard, _ => false

/-- 20 ms of silence in FRAME drops the frame (R175). -/
def LinkUnit.frameSilent (u : LinkUnit) : LinkUnit :=
  match u.rx with
  | .frame _ _ _ => { u with rx := .hunt }
  | .hunt => u
  | .discard => u

/-- 20 ms of silence in DISCARD ends it (R175). -/
def LinkUnit.discardSilent (u : LinkUnit) : LinkUnit :=
  match u.rx with
  | .discard => { u with rx := .hunt }
  | .hunt => u
  | .frame _ _ _ => u

/-- The exchange of a link is BUSY. -/
def LinkUnit.busy (u : LinkUnit) : Bool :=
  match u.exchange with
  | .idle => false
  | .busy _ _ => true

/-- A marker in HUNT begins a frame, which keeps the address and whether the exchange was BUSY (R174 to R176). -/
def LinkUnit.marked (u : LinkUnit) : LinkUnit :=
  match u.rx with
  | .hunt => { u with rx := .frame u.inForce.address u.busy [] }
  | .frame _ _ _ => u
  | .discard => u

/-- The new settings of a link come into force (R174). DESIGN CHOICE (log 41): they are those of the CONFIGURE whose reply has
ended, also where the other link has stored another record since. -/
def State.applyLink (s : State) (l : Link) (cfg : LinkCfg) : State := s.modLink l fun u => { u with inForce := cfg }

/-- What follows the last byte of a reply (R174, R177). -/
def State.afterReply (s : State) : AfterReply → State
  | .nothing => s
  | .restart => s.restart
  | .applyLink l cfg => s.applyLink l cfg

/-- The last byte of a link's reply has been sent: its exchange is IDLE, and what waited for it happens (R176, R177). -/
def State.replySent (s : State) (l : Link) : State :=
  match (s.link l).exchange with
  | .idle => s
  | .busy _ after => (s.modLink l fun u => { u with exchange := .idle }).afterReply after

/-- A change that needs the supply. -/
def State.ifPowered (s : State) (t : State) : State := if s.powered then t else s

/-- UNCATALOGUED_REQUEST: REFUSED_KIND (R178). A kind code of the catalogue is no such command and changes nothing. -/
def execUncataloguedRequest (l : Link) (tag kind : Byte) (_body : List Byte) (s : State) :
    Host.Outcome State Fault Refusal :=
  .next (if catalogue.contains kind then s else s.takeFrame l tag kind fun t => t.refuse .refusedKind)

/-- FRAME_REJECTED (R175): the frame is dropped without a reply; an oversized one leads to DISCARD. -/
def execFrameRejected (l : Link) (bytes : List Byte) (s : State) : Host.Outcome State Fault Refusal :=
  .next (s.ifPowered (s.modLink l (LinkUnit.dropped bytes)))

/-- LINK_OVERRUN (R176): the frame is discarded and LINK_OVERRUN latched with the link's mark. -/
def execLinkOverrun (l : Link) (s : State) : Host.Outcome State Fault Refusal :=
  .next (s.ifPowered (if (s.link l).inOverrun then s.overrun l else s))

/-- FRAME_SILENCE_TIMEOUT (R175). -/
def execFrameSilenceTimeout (l : Link) (s : State) : Host.Outcome State Fault Refusal :=
  .next (s.ifPowered (s.modLink l LinkUnit.frameSilent))

/-- DISCARD_SILENCE_END (R175). -/
def execDiscardSilenceEnd (l : Link) (s : State) : Host.Outcome State Fault Refusal :=
  .next (s.ifPowered (s.modLink l LinkUnit.discardSilent))

/-- REPLY_SENT (R176, R177). -/
def execReplySent (l : Link) (s : State) : Host.Outcome State Fault Refusal := .next (s.ifPowered (s.replySent l))

/-- MARKER_RECEIVED (R175). -/
def execMarkerReceived (l : Link) (s : State) : Host.Outcome State Fault Refusal :=
  .next (s.ifPowered (s.modLink l LinkUnit.marked))

end Sys2Proof.Machine
end

