-- ==== Sys2Proof/Machine/InputEvents.lean ====
section
/-! DEFINITION. The events of the input block (chapter 7): raw levels, accepted candidates, conversions, the expiry of a
bypass. -/

namespace Sys2Proof.Machine

/-! ### Discrete lines (R131, R136) -/

/-- The other level. -/
def Level.other : Level → Level
  | .low => .high
  | .high => .low

/-- The raw level of a line changes (R131): away from the filtered level it sets a candidate with a window from t to 2t, back
to it it cancels the candidate. -/
def Line.rawChanged (t : Nat) (level : Level) (l : Line) : Line :=
  if level = l.raw then l
  else { l with raw := level, candidate := if level = l.filtered then none else some (t, 2 * t) }

/-- A line's candidate is accepted: the filtered level takes the opposite value (R131). -/
def Line.accepted (l : Line) : Line := { l with filtered := Level.other l.filtered, candidate := none }

/-- An edge choice includes a direction of change (R136). -/
def EdgeChoice.includes (e : EdgeChoice) (toActive : Bool) : Bool :=
  match e with
  | .never => false
  | .activation => toActive
  | .deactivation => !toActive
  | .both => true

/-- The acceptance of a line's candidate (R131): the filtered level changes, INPUT_EDGE follows the line (R136), and a change
of the function's reading reaches its user (R135). -/
def State.acceptLine (s : State) (i : LineId) : State :=
  let s1 := s.modLine i Line.accepted
  let c := s.lineCfg.get i
  match c.function with
  | none => s1
  | some f =>
    let s2 := if c.edge.includes (decide ((s1.lines.get i).filtered = c.activeLevel)) then s1.latchInputEdge f else s1
    Reacted.settled (s2, readingChange s s2 f)

/-- A change of a line's raw level (R131): with a filter time of 0 the new level is accepted at the change itself. -/
def State.rawChange (s : State) (i : LineId) (level : Level) : State :=
  let t := (s.lineCfg.get i).filterTime
  let s1 := s.modLine i (Line.rawChanged t level)
  if decide (level ≠ (s.lines.get i).raw) && ((s1.lines.get i).candidate).isSome && decide (t = 0) then s1.acceptLine i
  else s1

/-- RAW_LEVEL_CHANGE (R131). DEDUCED (log 16): with the supply off no filter runs; the line's filtered level stands with its raw
one and it has no candidate, as the first scan will find it. -/
def execRawLevelChange (i : LineId) (level : Level) (s : State) : Host.Outcome State Fault Refusal :=
  .next (if s.powered then s.rawChange i level
    else s.modLine i fun l => { l with raw := level, filtered := level, candidate := none })

/-- A line's candidate may be accepted (R131): its acceptance window has begun, the filter time having run since the
change. -/
def Line.acceptable (l : Line) : Bool :=
  match l.candidate with
  | some w => decide (w.1 = 0)
  | none => false

/-- FILTER_ACCEPT (R131): a line whose candidate's window has begun accepts it; before that nothing is accepted. -/
def execFilterAccept (i : LineId) (s : State) : Host.Outcome State Fault Refusal :=
  .next (s.ifPowered (if (s.lines.get i).acceptable then s.acceptLine i else s))

/-! ### Analog channels (R138, R139) -/

/-- A conversion is good: 3,600 to 21,000 µA (R139). -/
def goodCurrent (microamps : Nat) : Bool := within 3600 21000 microamps

/-- The reading of a good conversion (R138, R139): on the straight line it is the whole reading, not its distance from the
scale low, that is rounded with a tie away from zero. -/
def scaleReading (k : ScaleCfg) (microamps : Nat) : Int :=
  if microamps < 4000 then k.low
  else if 20000 < microamps then k.high
  else roundDiv (k.low * 16000 + ((microamps : Int) - 4000) * (k.high - k.low)) 16000

/-- A channel after a conversion (R138, R139): a bad one keeps the reading of the last good one. -/
def AnalogChannel.converted (k : ScaleCfg) (microamps : Nat) (c : AnalogChannel) : AnalogChannel :=
  if goodCurrent microamps then ⟨some microamps, some (scaleReading k microamps), false⟩
  else { c with current := some microamps, fault := true }

/-- The temperature channel of a spot enters fault (R44): held with a hold timer, or substituted where no good reading has
been taken. -/
def State.temperatureFault (s : State) (sp : SpotId) : State :=
  (s.modSpot sp (Spot.modMeter fun m =>
    { m with
      hold := match (s.analog.get (tempChannel sp)).reading with
        | some _ => .held Config.tempHoldMs
        | none => .substituted })).latchSpot sp .tempChannel

/-- A conversion reaches the meter channel of a spot (R44). -/
def State.temperatureConverted (s : State) (sp : SpotId) (good wasFault : Bool) : State :=
  if good then s.modSpot sp (Spot.modMeter fun m => { m with hold := .live })
  else if wasFault then s
  else s.temperatureFault sp

/-- A good conversion of a car pressure channel reaches the transfer driver of its spot: the overpressure test (R107), the
tests of a recovery (R109, R111), the dwell after a freeze (R99), the conditions of TRANSFER (R100). -/
def carReactions (sp : SpotId) (wasFault : Bool) : List Reaction :=
  [.overpressureTest sp, .recoveryReading sp] ++ (if wasFault then [.resumeDwell sp] else []) ++ [.transferTest sp]

/-- A car pressure channel enters fault (R99); in RECOVERY the recovery ends incomplete (R110). -/
def State.carFault (s : State) (sp : SpotId) : Reacted :=
  let s1 := s.pressureFault sp
  if s.stateOf sp = .recovery then s1.endRecovery sp true false else (s1, [])

/-- A conversion reaches the transfer driver of a spot (R99, R107, R109 to R111). -/
def State.carConverted (s : State) (sp : SpotId) (good wasFault : Bool) : State :=
  if good then Reacted.settled (s, carReactions sp wasFault)
  else if wasFault then s
  else Reacted.settled (s.carFault sp)

/-- The spots whose order names a vessel. -/
def State.spotsNaming (s : State) (v : VesselId) : List SpotId :=
  allSpots.filter fun sp => decide (s.vesselOf sp = some v)

/-- A vessel pressure conversion reaches the transfer driver of every spot whose order names the vessel (R71, R138). -/
def State.vesselConverted (s : State) (v : VesselId) (good wasFault : Bool) : State :=
  if good then
    Reacted.settled (s, (s.spotsNaming v).flatMap fun sp =>
      (if wasFault then [.resumeDwell sp] else []) ++ [.transferTest sp])
  else if wasFault then s
  else (s.spotsNaming v).foldl State.pressureFault s

/-- Who uses an analog channel (section 7.4). -/
inductive ChannelUser where
  | temperature (sp : SpotId)
  | car (sp : SpotId)
  | vessel (v : VesselId)
  deriving DecidableEq, Repr

/-- The user of a channel: AI01 to AI08, AI09 to AI16, AI17 to AI20. -/
def channelUser (ch : ChannelId) : ChannelUser :=
  if h : ch.val < 8 then .temperature ⟨ch.val, h⟩
  else if h' : ch.val < 16 then .car ⟨ch.val - 8, by omega⟩
  else .vessel ⟨ch.val - 16, by omega⟩

/-- A conversion reaches the channel's user (R138). -/
def State.converted (s : State) (ch : ChannelId) (good wasFault : Bool) : State :=
  match channelUser ch with
  | .temperature sp => s.temperatureConverted sp good wasFault
  | .car sp => s.carConverted sp good wasFault
  | .vessel v => s.vesselConverted v good wasFault

/-- ANALOG_CONVERSION (R138, R139). -/
def execAnalogConversion (ch : ChannelId) (microamps : Nat) (s : State) : Host.Outcome State Fault Refusal :=
  .next (s.ifPowered ((s.modAnalog ch (AnalogChannel.converted (s.scaling.get ch) microamps)).converted ch
    (goodCurrent microamps) (s.analog.get ch).fault))

/-! ### Bypasses (R142) -/

/-- The bypass of a spot's function has run out (R142): its remaining time has reached 0. -/
def State.bypassOver (s : State) (sp : SpotId) (f : BypassFn) : Bool :=
  match s.bypassOf sp f with
  | some b => decide (b.remaining = 0)
  | none => false

/-- BYPASS_EXPIRY (R142): the record is removed, BYPASS_EXPIRED latched, and the function reads from its line. A record
renewed before the expiry is taken has time left, and the expiry does not occur. -/
def execBypassExpiry (sp : SpotId) (f : BypassFn) (s : State) : Host.Outcome State Fault Refusal :=
  .next (s.ifPowered (if s.bypassOver sp f then (s.latchSpot sp .bypassExpired).rebypassed sp f (s.withoutBypass sp f)
    else s))

end Sys2Proof.Machine
end

