-- ==== Sys2Proof/Machine/MeterEvents.lean ====
section
/-! DEFINITION. The events of a meter channel (chapter 2): pulses and window closes. -/

namespace Sys2Proof.Machine

/-- PULSE_EDGE (R28). -/
def execPulseEdge (sp : SpotId) (ch : PulseChannel) (s : State) : Host.Outcome State Fault Refusal :=
  .next (s.ifPowered (s.modSpot sp (Spot.modMeter (Meter.pulse ch))))

/-- The window of an open record closes (R31): integrity, conversion and the record, the next window, then the hand-off to
the vessel admission unit, to the transfer driver, and of a pulse-fault indication to the spot controller. -/
def State.windowClose (s : State) (sp : SpotId) (r : Record) : State :=
  let t := s.processWindow sp r
  Reacted.settled (t.1.startWindow sp,
    [.windowToVessel sp t.2.1, .windowToDriver sp t.2.1] ++ (if t.2.2 then [.pulseFault sp] else []))

/-- WINDOW_CLOSE (R29, R31): the window has run its full time. -/
def execWindowClose (sp : SpotId) (s : State) : Host.Outcome State Fault Refusal :=
  .next (s.ifPowered (match s.recordOf sp with
    | some r => if timerDue (s.spots.get sp).meter.window then s.windowClose sp r else s
    | none => s))

end Sys2Proof.Machine
end

