-- ==== Sys2Proof/Machine/TimerEvents.lean ====
section
/-! DEFINITION. The expiries of the timers. An expiry is due when its timer runs and has no time left; before that, and when
the timer does not run, the command changes nothing (logs 1 and 13). -/

namespace Sys2Proof.Machine

/-! ### Proving, temperature hold, vessels -/

/-- Entry to LINING_UP (R8, R11, R153): the held conditions are tested, then the line-up list starts. -/
def State.enterLiningUp (s : State) (sp : SpotId) : Reacted :=
  let s1 := s.moveTo sp .liningUp
  match s1.entryTripCause sp with
  | some cause => (s1, [.spotTrip sp cause])
  | none => (s1.startList sp (s.lineUpOf sp).1 (s.lineUpOf sp).2, [.engineRun sp])

/-- PROVING_EXPIRY (R8). -/
def execProvingExpiry (sp : SpotId) (s : State) : Host.Outcome State Fault Refusal :=
  .next (s.ifPowered (if timerDue (s.spots.get sp).proving then Reacted.settled (s.enterLiningUp sp) else s))

/-- The hold timer of a temperature channel has run out (R44). -/
def TempHold.due (h : TempHold) : Bool := decide (h = .held 0)

/-- TEMP_HOLD_EXPIRY (R44). -/
def execTempHoldExpiry (sp : SpotId) (s : State) : Host.Outcome State Fault Refusal :=
  .next (s.ifPowered (if (s.spots.get sp).meter.hold.due then
    s.modSpot sp (Spot.modMeter fun m => { m with hold := .substituted }) else s))

/-- The age of a vessel's report has reached its limit and the vessel is not STALE yet (R55). -/
def Vessel.ageDue (v : Vessel) : Bool :=
  !v.stale &&
    (match v.age with
     | some ms => decide (seconds v.ageLimit ≤ ms)
     | none => false)

/-- ULLAGE_AGE_EXPIRY (R55): the vessel turns STALE. -/
def execUllageAgeExpiry (v : VesselId) (s : State) : Host.Outcome State Fault Refusal :=
  .next (s.ifPowered (if (s.vessels.get v).ageDue then
    (s.modVessel v fun x => { x with stale := true }).latchVesselStale v else s))

/-- ULLAGE_WAIT_EXPIRY (R66). -/
def execUllageWaitExpiry (sp : SpotId) (s : State) : Host.Outcome State Fault Refusal :=
  .next (s.ifPowered (if timerDue (s.spots.get sp).ullageWait then Reacted.settled (s.ullageWaitOver sp) else s))

/-! ### Compressors -/

/-- The compressor's timer has run out in one of the given states. -/
def Comp.timing (c : Comp) (states : List CompState) : Bool := timerDue c.timer && decide (c.state ∈ states)

/-- The time of a changeover is over (R76, R79): with the commanded direction not proven the compressor enters FAULT; with it
proven the compressor goes on. -/
def State.changeoverOver (s : State) (c : CompId) : Reacted :=
  let wanted := (s.comps.get c).commanded
  if (s.comps.get c).position = wanted ∨ s.provenOf c = some wanted then s.directionProven c (some wanted)
  else (s, [.compressorFault c])

/-- CHANGEOVER_EXPIRY (R76, R79). -/
def execChangeoverExpiry (c : CompId) (s : State) : Host.Outcome State Fault Refusal :=
  .next (s.ifPowered (if (s.comps.get c).timing [.changeoverFromIdle, .changeoverInPlace] then
    Reacted.settled (s.changeoverOver c) else s))

/-- RUN_UP_EXPIRY (R77). -/
def execRunUpExpiry (c : CompId) (s : State) : Host.Outcome State Fault Refusal :=
  .next (s.ifPowered (if (s.comps.get c).timing [.starting] then Reacted.settled (s, [.compressorFault c]) else s))

/-- RUN_DOWN_EXPIRY (R80): IDLE, and the arbiter acts. -/
def execRunDownExpiry (c : CompId) (s : State) : Host.Outcome State Fault Refusal :=
  .next (s.ifPowered (if (s.comps.get c).timing [.stopping false] then
    Reacted.settled (s.modComp c Comp.enterIdle, [.arbiter]) else s))

/-! ### The transfer driver -/

/-- The dwell timer has run for half the dwell (R96). -/
def Driver.halfDone (cfg : SpotCfg) (d : Driver) : Bool :=
  match d.dwell with
  | some n => decide (2 * n ≤ seconds cfg.dwell)
  | none => false

/-- HALF_DWELL (R96). -/
def execHalfDwell (sp : SpotId) (s : State) : Host.Outcome State Fault Refusal :=
  .next (s.ifPowered (if (s.spots.get sp).driver.halfDone (s.spotCfg.get sp) then
    s.modSpot sp (Spot.modDriver fun d => { d with secondHalf := true }) else s))

/-- A dwell expires (R98): the step decided, LOW_YIELD where due, and the next dwell (R96). -/
def State.dwellOver (s : State) (sp : SpotId) : State :=
  let t := dwellDecision (s.spotCfg.get sp) (s.spots.get sp).driver
  ((s.modSpot sp (Spot.modDriver fun d => { d with step := t.1, lowYield := d.lowYield || t.2 })).latchSpotIf t.2 sp
    .lowYield).modSpot sp (Spot.modDriver (Driver.startDwell (s.spotCfg.get sp).dwell))

/-- DWELL_EXPIRY (R98). -/
def execDwellExpiry (sp : SpotId) (s : State) : Host.Outcome State Fault Refusal :=
  .next (s.ifPowered (if timerDue (s.spots.get sp).driver.dwell then s.dwellOver sp else s))

/-- PRESSURISE_EXPIRY (R101). -/
def execPressuriseExpiry (sp : SpotId) (s : State) : Host.Outcome State Fault Refusal :=
  .next (s.ifPowered (if timerDue (s.spots.get sp).driver.pressurise then
    Reacted.settled (s.enterHeld sp .pressuriseTimeout none) else s))

/-- STALL_EXPIRY (R103). -/
def execStallExpiry (sp : SpotId) (s : State) : Host.Outcome State Fault Refusal :=
  .next (s.ifPowered (if timerDue (s.spots.get sp).driver.stall then Reacted.settled (s.enterHeld sp .stall none) else s))

/-- SETTLE_TIMER_EXPIRY (R105, R106). -/
def execSettleTimerExpiry (sp : SpotId) (s : State) : Host.Outcome State Fault Refusal :=
  .next (s.ifPowered (if timerDue (s.spots.get sp).driver.settle then Reacted.settled (s.endSettling sp) else s))

/-- SETTLE_LIMIT_EXPIRY (R105, R106). -/
def execSettleLimitExpiry (sp : SpotId) (s : State) : Host.Outcome State Fault Refusal :=
  .next (s.ifPowered (if timerDue (s.spots.get sp).driver.settleLimit then Reacted.settled (s.endSettling sp) else s))

/-- RECOVERY_PROVING_EXPIRY (R109): the recovery is complete. -/
def execRecoveryProvingExpiry (sp : SpotId) (s : State) : Host.Outcome State Fault Refusal :=
  .next (s.ifPowered (if timerDue (s.spots.get sp).driver.recoveryProving then
    Reacted.settled (s.endRecovery sp false false) else s))

/-- RECOVERY_LIMIT_EXPIRY (R110): the recovery ends incomplete. -/
def execRecoveryLimitExpiry (sp : SpotId) (s : State) : Host.Outcome State Fault Refusal :=
  .next (s.ifPowered (if timerDue (s.spots.get sp).driver.recoveryLimit then
    Reacted.settled (s.endRecovery sp true false) else s))

/-! ### Valves (R117 to R119, R122, R123) -/

/-- The trip that a valve which should be closed causes, where the spot is in a trippable state (R117). -/
def State.valveTrip (s : State) (sp : SpotId) : List Reaction :=
  if (s.stateOf sp).trippable then [.spotTrip sp .valve] else []

/-- A step of a list fails on OPEN (R118, R122, R123): a line-up stops at the step and the spot is held; a close-down
commands the valve CLOSE and goes on. A STOPPED engine stays where it is. -/
def State.openStepFailed (s : State) (sp : SpotId) (v : Valve) (i : Nat) : Reacted :=
  match (s.spots.get sp).engine with
  | .running ⟨.closeDown, steps, issued, waiting⟩ =>
    ((s.demand sp v .toClose (.listStep i)).modSpot sp fun p =>
      { p with engine := (Engine.running ⟨.closeDown, steps, issued, waiting⟩).releaseStep i }, [.engineRun sp])
  | .running r => (s.modSpot sp fun p => { p with engine := .stopped r i }).enterHeld sp .valve (some v)
  | .stopped _ _ => (s, [])
  | .idle => (s, [])
  | .closedCheck => (s, [])

/-- An OPEN stroke fails (R118), by its owner. -/
def State.openStrokeFailed (s : State) (sp : SpotId) (v : Valve) : StrokeOwner → Reacted
  | .listStep i => s.openStepFailed sp v i
  | .lh => if s.stateOf sp = .transfer then s.enterHeld sp .valve (some v) else (s, [])
  | .valveCommand => (s, [.engineRun sp])
  | .abandonedList => (s, [.engineRun sp])
  | .deEnergise => (s, [.engineRun sp])

/-- A stroke fails (R116 to R118): the fault indication is set and VALVE_FAULT latched; then by target. -/
def State.strokeFailed (s : State) (sp : SpotId) (v : Valve) (k : Stroke) : Reacted :=
  let s1 := (s.modSpot sp (Spot.modValve v ValveUnit.failed)).latchSpot sp .valveFault
  match k.target with
  | .toClose => (s1, s1.valveTrip sp)
  | .toOpen => s1.openStrokeFailed sp v k.owner

/-- STROKE_TIMEOUT (R116): a stroke whose timer has run out fails. -/
def execStrokeTimeout (sp : SpotId) (v : Valve) (s : State) : Host.Outcome State Fault Refusal :=
  .next (s.ifPowered (match (s.valve sp v).stroke with
    | some k => if k.remaining = 0 then Reacted.settled (s.strokeFailed sp v k) else s
    | none => s))

/-- A disagreement expires (R119): fault indication and VALVE_FAULT; then by the command and the state. -/
def State.disagreementOver (s : State) (sp : SpotId) (v : Valve) : Reacted :=
  let s1 := (s.modSpot sp (Spot.modValve v fun u => { u with disagreement := none, fault := true })).latchSpot sp .valveFault
  match (s.valve sp v).command with
  | .toClose => (s1, s1.valveTrip sp)
  | .toOpen => if s.stateOf sp = .transfer then s1.enterHeld sp .valve (some v) else (s1, [])

/-- DISAGREEMENT_EXPIRY (R119). -/
def execDisagreementExpiry (sp : SpotId) (v : Valve) (s : State) : Host.Outcome State Fault Refusal :=
  .next (s.ifPowered (if timerDue (s.valve sp v).disagreement then Reacted.settled (s.disagreementOver sp v) else s))

/-! ### The clock -/

/-- CLOCK_TICK (R193): a set clock rises by one and stays at its maximum. -/
def execClockTick (s : State) : Host.Outcome State Fault Refusal :=
  .next (s.ifPowered { s with clock := s.clock.map fun n => min (n + 1) Config.u32Max })

end Sys2Proof.Machine
end

