-- ==== Sys2Proof/Machine/Dispatch.lean ====
section
/-! DEFINITION. One arm for each command of the opcode table. -/

namespace Sys2Proof.Machine

/-- The effect of a command on everything but the queue of waiting commands. -/
def exec (i : Instr) (s : State) : Host.Outcome State Fault Refusal :=
  match i with
  | .readStatus l tag body => Sys2Proof.Machine.execReadStatus l tag body s
  | .readSpot l tag body => Sys2Proof.Machine.execReadSpot l tag body s
  | .readVessel l tag body => Sys2Proof.Machine.execReadVessel l tag body s
  | .readCompressor l tag body => Sys2Proof.Machine.execReadCompressor l tag body s
  | .readInputs l tag body => Sys2Proof.Machine.execReadInputs l tag body s
  | .readTicket l tag body => Sys2Proof.Machine.execReadTicket l tag body s
  | .readSnapshot l tag body => Sys2Proof.Machine.execReadSnapshot l tag body s
  | .readConfig l tag body => Sys2Proof.Machine.execReadConfig l tag body s
  | .carOrder l tag body => Sys2Proof.Machine.execCarOrder l tag body s
  | .listClear l tag body => Sys2Proof.Machine.execListClear l tag body s
  | .start l tag body => Sys2Proof.Machine.execStart l tag body s
  | .stop l tag body => Sys2Proof.Machine.execStop l tag body s
  | .abort l tag body => Sys2Proof.Machine.execAbort l tag body s
  | .hold l tag body => Sys2Proof.Machine.execHold l tag body s
  | .resume l tag body => Sys2Proof.Machine.execResume l tag body s
  | .spotReset l tag body => Sys2Proof.Machine.execSpotReset l tag body s
  | .spotTripReset l tag body => Sys2Proof.Machine.execSpotTripReset l tag body s
  | .valveCommand l tag body => Sys2Proof.Machine.execValveCommand l tag body s
  | .seatTake l tag body => Sys2Proof.Machine.execSeatTake l tag body s
  | .seatYield l tag body => Sys2Proof.Machine.execSeatYield l tag body s
  | .compressorReset l tag body => Sys2Proof.Machine.execCompressorReset l tag body s
  | .tankUllage l tag body => Sys2Proof.Machine.execTankUllage l tag body s
  | .releaseTicket l tag body => Sys2Proof.Machine.execReleaseTicket l tag body s
  | .clearLatches l tag body => Sys2Proof.Machine.execClearLatches l tag body s
  | .setMask l tag body => Sys2Proof.Machine.execSetMask l tag body s
  | .siteTrip l tag body => Sys2Proof.Machine.execSiteTrip l tag body s
  | .configure l tag body => Sys2Proof.Machine.execConfigure l tag body s
  | .listLoad l tag body => Sys2Proof.Machine.execListLoad l tag body s
  | .bypassSet l tag body => Sys2Proof.Machine.execBypassSet l tag body s
  | .bypassEnd l tag body => Sys2Proof.Machine.execBypassEnd l tag body s
  | .compressorService l tag body => Sys2Proof.Machine.execCompressorService l tag body s
  | .siteTripReset l tag body => Sys2Proof.Machine.execSiteTripReset l tag body s
  | .setClock l tag body => Sys2Proof.Machine.execSetClock l tag body s
  | .lockMetrology l tag body => Sys2Proof.Machine.execLockMetrology l tag body s
  | .restart l tag body => Sys2Proof.Machine.execRestart l tag body s
  | .authenticate l tag body => Sys2Proof.Machine.execAuthenticate l tag body s
  | .deauthenticate l tag body => Sys2Proof.Machine.execDeauthenticate l tag body s
  | .uncataloguedRequest l tag kind body => Sys2Proof.Machine.execUncataloguedRequest l tag kind body s
  | .frameRejected l bytes => Sys2Proof.Machine.execFrameRejected l bytes s
  | .linkOverrun l => Sys2Proof.Machine.execLinkOverrun l s
  | .frameSilenceTimeout l => Sys2Proof.Machine.execFrameSilenceTimeout l s
  | .discardSilenceEnd l => Sys2Proof.Machine.execDiscardSilenceEnd l s
  | .replySent l => Sys2Proof.Machine.execReplySent l s
  | .powerUp => Sys2Proof.Machine.execPowerUp s
  | .supplyLoss => Sys2Proof.Machine.execSupplyLoss s
  | .rawLevelChange line level => Sys2Proof.Machine.execRawLevelChange line level s
  | .filterAccept line => Sys2Proof.Machine.execFilterAccept line s
  | .analogConversion ch microamps => Sys2Proof.Machine.execAnalogConversion ch microamps s
  | .pulseEdge sp ch => Sys2Proof.Machine.execPulseEdge sp ch s
  | .windowClose sp => Sys2Proof.Machine.execWindowClose sp s
  | .provingExpiry sp => Sys2Proof.Machine.execProvingExpiry sp s
  | .tempHoldExpiry sp => Sys2Proof.Machine.execTempHoldExpiry sp s
  | .ullageAgeExpiry v => Sys2Proof.Machine.execUllageAgeExpiry v s
  | .ullageWaitExpiry sp => Sys2Proof.Machine.execUllageWaitExpiry sp s
  | .changeoverExpiry c => Sys2Proof.Machine.execChangeoverExpiry c s
  | .runUpExpiry c => Sys2Proof.Machine.execRunUpExpiry c s
  | .runDownExpiry c => Sys2Proof.Machine.execRunDownExpiry c s
  | .halfDwell sp => Sys2Proof.Machine.execHalfDwell sp s
  | .dwellExpiry sp => Sys2Proof.Machine.execDwellExpiry sp s
  | .pressuriseExpiry sp => Sys2Proof.Machine.execPressuriseExpiry sp s
  | .stallExpiry sp => Sys2Proof.Machine.execStallExpiry sp s
  | .settleTimerExpiry sp => Sys2Proof.Machine.execSettleTimerExpiry sp s
  | .settleLimitExpiry sp => Sys2Proof.Machine.execSettleLimitExpiry sp s
  | .recoveryProvingExpiry sp => Sys2Proof.Machine.execRecoveryProvingExpiry sp s
  | .recoveryLimitExpiry sp => Sys2Proof.Machine.execRecoveryLimitExpiry sp s
  | .strokeTimeout sp v => Sys2Proof.Machine.execStrokeTimeout sp v s
  | .disagreementExpiry sp v => Sys2Proof.Machine.execDisagreementExpiry sp v s
  | .bypassExpiry sp f => Sys2Proof.Machine.execBypassExpiry sp f s
  | .clockTick => Sys2Proof.Machine.execClockTick s
  | .markerReceived l => Sys2Proof.Machine.execMarkerReceived l s

end Sys2Proof.Machine
end

