-- ==== Sys2Proof/Machine/Time.lean ====
section
/-! DEFINITION. The passing of time (log 3): what a millisecond does to every running timer while no command waits. Nothing
expires here: an expiry, a window close and a tick of the clock are commands of the table. -/

namespace Sys2Proof.Machine

/-- A running timer after one millisecond; it stays at 0 until its expiry is taken. -/
def tickTimer (t : Timer) : Timer := t.map fun n => n - 1

/-- A valve after one millisecond. -/
def ValveUnit.tick (u : ValveUnit) : ValveUnit :=
  { u with
    stroke := u.stroke.map fun k => { k with remaining := k.remaining - 1 }
    disagreement := tickTimer u.disagreement }

/-- A transfer driver after one millisecond. -/
def Driver.tick (d : Driver) : Driver :=
  { d with
    dwell := tickTimer d.dwell
    pressurise := tickTimer d.pressurise
    stall := tickTimer d.stall
    settle := tickTimer d.settle
    settleLimit := tickTimer d.settleLimit
    recoveryLimit := tickTimer d.recoveryLimit
    recoveryProving := tickTimer d.recoveryProving }

/-- The hold of a temperature channel after one millisecond. -/
def TempHold.tick : TempHold → TempHold
  | .live => .live
  | .held n => .held (n - 1)
  | .substituted => .substituted

/-- A meter channel after one millisecond. -/
def Meter.tick (m : Meter) : Meter := { m with window := tickTimer m.window, hold := m.hold.tick }

/-- A spot after one millisecond. -/
def Spot.tick (p : Spot) : Spot :=
  { p with
    proving := tickTimer p.proving
    ullageWait := tickTimer p.ullageWait
    meter := p.meter.tick
    driver := p.driver.tick
    valves := p.valves.map ValveUnit.tick }

/-- A vessel after one millisecond: the report age counts up and stops at 65,535 s (R55). -/
def Vessel.tick (v : Vessel) : Vessel := { v with age := v.age.map fun ms => min (ms + 1) (seconds Config.u16Max) }

/-- A compressor after one millisecond. -/
def Comp.tick (c : Comp) : Comp := { c with timer := tickTimer c.timer }

/-- A line after one millisecond. -/
def Line.tick (l : Line) : Line := { l with candidate := l.candidate.map fun w => (w.1 - 1, w.2 - 1) }

/-- A bypass record after one millisecond. -/
def Bypass.tick (b : Bypass) : Bypass := { b with remaining := b.remaining - 1 }

/-- One millisecond of a controller with its supply on (log 3). -/
def State.tick (s : State) : State :=
  if s.powered then
    { s with
      spots := s.spots.map Spot.tick
      vessels := s.vessels.map Vessel.tick
      comps := s.comps.map Comp.tick
      lines := s.lines.map Line.tick
      bypasses := s.bypasses.map Bypass.tick }
  else s

end Sys2Proof.Machine
end

