-- ==== Sys2Proof/Machine/Step.lean ====
section
/-! DEFINITION. One step of the controller: the command at the front of the queue, or a millisecond of time. -/

namespace Sys2Proof.Machine

/-- One step: the command at the front of the queue is taken off it and carried out; on an empty queue a millisecond passes
(log 3). -/
def step (s : State) : Host.Outcome State Fault Refusal :=
  match s.pending with
  | [] => .next s.tick
  | c :: rest => exec c { s with pending := rest }

/-- The state with the command that a word spells at the front of its queue. The opcode table gives its rows no bits, so no
word spells a command and the state is unchanged. -/
def State.withFetchWord (s : State) (nbits w : Nat) : State :=
  match decodeTableWord nbits w with
  | some c => { s with pending := c :: s.pending }
  | none => s

end Sys2Proof.Machine
end

