-- ==== Sys2Proof/Safety.lean ====
section
/-! DEFINITION. What the statements about the controller speak of: when a link takes a request, what a change leaves alone,
and the conditions that every state of the controller meets. -/

namespace Sys2Proof.Machine

/-! ### Taking a request -/

/-- A link interface takes the next request: its exchange is IDLE, and its receiver is in HUNT or gathers a frame whose
marker arrived while the exchange was IDLE (R175, R176). -/
def LinkUnit.takes (u : LinkUnit) : Bool :=
  match u.exchange, u.rx with
  | .idle, .hunt => true
  | .idle, .frame _ false _ => true
  | _, _ => false

/-- The controller takes a request on a link. -/
def State.takes (s : State) (l : Link) : Bool := s.powered && (s.link l).takes

/-- A valid frame on a link is an overrun: its exchange is BUSY, or was when the marker arrived (R176). -/
def LinkUnit.overruns (u : LinkUnit) : Bool :=
  match u.exchange, u.rx with
  | _, .frame _ true _ => true
  | .busy _ _, .hunt => true
  | .busy _ _, .frame _ false _ => true
  | _, _ => false

/-- The state in which the owner of a request finds the controller: the link's receiver is back in HUNT (R175). -/
def State.taken (s : State) (l : Link) : State := s.receive l .hunt

/-- The state after a reply of a code alone (R177). -/
def State.replied (s : State) (l : Link) (tag kind : Byte) (code : ResultCode) : State :=
  s.reply l tag kind (answer code)

/-- The result code of the reply that a link is sending, if it is sending one. -/
def State.replyCode (s : State) (l : Link) : Option ResultCode :=
  match (s.link l).exchange with
  | .idle => none
  | .busy r _ => some r.code

/-- A result code that refuses (section 10.2). -/
def ResultCode.refuses : ResultCode → Bool
  | .done => false
  | .doneClamped => false
  | .refusedKind => true
  | .refusedField => true
  | .refusedState => true
  | .refusedSeat => true
  | .refusedAuth => true
  | .refusedLocked => true
  | .refusedBusy => true
  | .refusedFull => true
  | .refusedEmpty => true
  | .refusedMismatch => true

/-- The body of a request that names one item by its number from 1 (R188). -/
def itemBody {n : Nat} (i : Fin n) : List Byte := be 1 (i.val + 1)

/-- The 24 bytes of a unit record as a CONFIGURE carries them, supervisor code and all (section 10.6). -/
def unitRecord (u : UnitCfg) : List Byte :=
  u.ladder.cells.flatMap (be 2) ++ be 2 u.pullSetpoint ++ be 1 u.gasVote ++ be 1 u.attemptLimit ++ be 4 u.supervisorCode

/-- A command at which the controller may start anew: the supply comes or goes, or a reply has been sent, which may be that
of a RESTART (R177, R194). -/
def mayRestart : Instr → Bool
  | .powerUp => true
  | .supplyLoss => true
  | .replySent _ => true
  | _ => false

/-! ### What a change leaves alone -/

/-- The state with everything erased that the reactions inside a step may change: the spots, vessels, compressors, queue,
site trip, tickets, pending order, latches and the count of free values. What is left is settings, clock, inputs, bypasses,
links and authentication. -/
def State.base (s : State) : State :=
  { s with
    spots := Bank.fill 8 (Spot.blank 1 0 0 none)
    vessels := Bank.fill 4 Vessel.blank
    comps := Bank.fill 3 Comp.blank
    queue := []
    siteTrip := SiteTripState.blank
    tickets := []
    ticketCounter := 0
    pendingOrder := []
    latches := Latches.blank
    freeCount := 0 }

/-- Only one spot, and the link a request came on, may differ between two states. -/
def State.onlySpot (s t : State) (sp : SpotId) : Prop :=
  t = { s with spots := t.spots, links := t.links } ∧ ∀ q : SpotId, q ≠ sp → t.spots.get q = s.spots.get q

/-! ### Latches (section 10.4) -/

/-- Every latch and every mark that is set in the first of two latch units is set in the second (R182). -/
def Latches.keptIn (a b : Latches) : Prop :=
  (a.siteTrip = true → b.siteTrip = true) ∧
  (∀ v, a.vesselStale.get v = true → b.vesselStale.get v = true) ∧
  (∀ v, a.vesselHigh.get v = true → b.vesselHigh.get v = true) ∧
  (∀ c, a.compressorFault.get c = true → b.compressorFault.get c = true) ∧
  (a.ticketReady = true → b.ticketReady = true) ∧
  (a.ticketQueueFull = true → b.ticketQueueFull = true) ∧
  (∀ f ∈ a.inputEdge, f ∈ b.inputEdge) ∧
  (∀ i, a.linkOverrun.get i = true → b.linkOverrun.get i = true) ∧
  (a.authLockout = true → b.authLockout = true) ∧
  (a.restarted = true → b.restarted = true) ∧
  (a.clockNotSet = true → b.clockNotSet = true) ∧
  ∀ sp, a.spot.get sp &&& b.spot.get sp = a.spot.get sp

/-- The second latch unit is the first with exactly these spot kinds latched for a spot (R182). -/
def Latches.gained (a b : Latches) (sp : SpotId) (kinds : List SpotLatch) : Prop :=
  b = { a with spot := b.spot } ∧ (∀ q : SpotId, q ≠ sp → b.spot.get q = a.spot.get q) ∧
  b.spot.get sp = kinds.foldl (fun w k => w ||| bitWord k.bit) (a.spot.get sp)

/-! ### Giving up what a spot holds (R14, R17, R22) -/

/-- No other spot waits for what this one gives up: the wait queue and the pending lists hold no entry of another spot. -/
def State.noOtherWaits (s : State) (sp : SpotId) : Prop :=
  (∀ e ∈ s.queue, e.spot = sp) ∧ ∀ v : VesselId, ∀ q ∈ (s.vessels.get v).requests, q.spot = sp

/-- No compressor is free for the head of the wait queue. -/
def State.noneIdle (s : State) : Prop := ∀ c : CompId, (s.comps.get c).state ≠ .idle

/-- The car pressure of a spot is below its car maximum, or its channel gives no reading (R107). -/
def State.pressureSafe (s : State) (sp : SpotId) : Bool :=
  match s.goodReading (carChannel sp) with
  | some x => decide (x < ((s.spotCfg.get sp).carMaximum : Int))
  | none => true

/-- A spot has given up what it held: its queue entry, its reservations and request, and its compressor, which is in STOPPING
with its run-down timer at the full time (R67, R80, R85, R89). -/
def State.gaveUp (s t : State) (sp : SpotId) : Prop :=
  t.queued sp = false ∧ (∀ v, s.vesselOf sp = some v → (t.vessels.get v).holds sp = false) ∧
  ∀ c, s.compOf sp = some c → (t.comps.get c).state = .stopping false ∧ (t.comps.get c).assigned = none ∧
    (t.comps.get c).timer = some (seconds (s.compCfg.get c).runDown)

/-- Between two states only a spot, its destination vessel, its compressor, the queue entries, the latches and the links may
differ. -/
def State.onlyHoldings (s t : State) (sp : SpotId) : Prop :=
  t = { s with spots := t.spots, vessels := t.vessels, comps := t.comps, queue := t.queue, latches := t.latches,
               links := t.links } ∧
  (∀ q : SpotId, q ≠ sp → t.spots.get q = s.spots.get q) ∧
  (∀ v : VesselId, s.vesselOf sp ≠ some v → t.vessels.get v = s.vessels.get v) ∧
  ∀ c : CompId, s.compOf sp ≠ some c → t.comps.get c = s.comps.get c

/-- Between two states a spot has entered a state other than TRANSFER (R6, R23, R115, section 5.1): the hold cause, what
COMPLETE kept and the faulted valve are gone, every timer of the state left is stopped and every count of the transfer driver
cleared, its step and LOW_YIELD kept; `starts` says what the driver then starts. Of the valves only LH may differ, at a
departure from TRANSFER, where it is commanded CLOSE. Nothing else of the spot differs, and no other spot does. -/
def State.entered (s t : State) (sp : SpotId) (st : SpotState) (starts : Driver → Driver) : Prop :=
  (∀ q : SpotId, q ≠ sp → t.spots.get q = s.spots.get q) ∧
  (let p := s.spots.get sp
   t.spots.get sp = { p with
     state := st
     record := p.record.map fun r => { r with holdCause := none }
     completed := none
     proving := none
     ullageWait := none
     faultedValve := none
     driver := starts { p.driver with
       dwell := none, secondHalf := false, dwellMass := 0, slips := 0, pressurise := none, stall := none, voidRun := 0
       settle := none, settleLimit := none, recoveryLimit := none, recoveryProving := none }
     valves := (t.spots.get sp).valves }) ∧
  (∀ v : Valve, v ≠ .lh ∨ s.stateOf sp ≠ .transfer → t.valve sp v = s.valve sp v) ∧
  (s.stateOf sp = .transfer → (s.spotCfg.get sp).inService = true → (t.valve sp .lh).command = .toClose)

/-- The first step of a list waits, and its valve does not show its position yet. -/
def State.firstStepWaits (s : State) (sp : SpotId) (steps : List ListStep) : Bool :=
  match steps with
  | k :: _ => k.wait && !s.shows sp k.valve k.action
  | [] => false

/-! ### Conditions on the vessels and the wait queue (chapters 3 and 4) -/

/-- The committed quantity of a vessel is the sum of what is outstanding, and no reservation has more outstanding than it
was granted (R61). -/
def Vessel.balanced (v : Vessel) : Prop :=
  v.committed = outstandingSum v.reservations ∧ ∀ r ∈ v.reservations, r.outstanding ≤ r.granted

/-- Every vessel is balanced (R61). -/
def State.vesselsBalanced (s : State) : Prop := ∀ v : VesselId, (s.vessels.get v).balanced

/-! ### Conditions on the outputs (R100, R114, R150) -/

/-- All five valves of a spot are commanded CLOSE. -/
def State.allCommandedClose (s : State) (sp : SpotId) : Prop :=
  ∀ i : Fin 5, ((s.spots.get sp).valves.get i).command = .toClose

/-- What keeps the rack dark: a spot out of service has every valve commanded CLOSE (R114), only an active compressor is
assigned (section 4.1), and while the site trip is active every valve is commanded CLOSE, no compressor runs and none is
assigned (R150). -/
def State.darkWhenTripped (s : State) : Prop :=
  (∀ sp : SpotId, (s.spotCfg.get sp).inService = false → s.allCommandedClose sp) ∧
  (∀ c : CompId, (s.comps.get c).assigned.isSome = true → (s.comps.get c).state.active = true) ∧
  (s.siteTrip.active = true →
    (∀ sp : SpotId, s.allCommandedClose sp) ∧ ∀ c : CompId, (s.comps.get c).state.active = false)

/-- A list never names LH (section 6.2). -/
def sparesLh (steps : List ListStep) : Bool := steps.all fun k => !decide (k.valve = .lh)

/-- The override of a record, where it has one, never names LH (R2). -/
def Record.sparesLh (r : Record) : Bool :=
  match r.order.lineUpOverride with
  | some steps => Machine.sparesLh steps
  | none => true

/-- The list an engine runs never names LH. -/
def Engine.sparesLh : Engine → Bool
  | .idle => true
  | .running r => Machine.sparesLh r.steps
  | .stopped r _ => Machine.sparesLh r.steps
  | .closedCheck => true

/-- What keeps LH closed outside TRANSFER (R100, R115): LH of a spot is commanded OPEN only in TRANSFER and only in service,
and no list, stored, ordered, retained or running, names it. -/
def State.lhGuarded (s : State) : Prop :=
  ∀ sp : SpotId,
    ((s.valve sp .lh).command = .toOpen → s.stateOf sp = .transfer ∧ (s.spotCfg.get sp).inService = true) ∧
    sparesLh (s.lineUp.get sp) = true ∧ sparesLh (s.closeDown.get sp) = true ∧
    (s.recordOf sp).all Record.sparesLh = true ∧
    (s.spots.get sp).retained.all (fun k => k.record.sparesLh) = true ∧
    (s.spots.get sp).engine.sparesLh = true

/-! ### Conditions on the ladder and the timers of a spot (chapter 5) -/

/-- The ladder step of every spot lies between its floor step and 8, and the floor step is a step (R95). -/
def State.laddersBounded (s : State) : Prop :=
  ∀ sp : SpotId, 1 ≤ (s.spotCfg.get sp).floorStep ∧ (s.spotCfg.get sp).floorStep ≤ (s.spots.get sp).driver.step ∧
    (s.spots.get sp).driver.step ≤ 8

/-- Every timer of a spot's controller and transfer driver runs only in the state it belongs to (R8, R66, R96, R101, R102,
R105, R108, R109). -/
def Spot.timersInPlace (p : Spot) : Prop :=
  (p.proving.isSome = true → p.state = .ordered) ∧
  (p.ullageWait.isSome = true → p.state = .pressurising ∨ p.state = .paused .ullage) ∧
  (p.driver.dwell.isSome = true → p.state = .transfer) ∧
  (p.driver.stall.isSome = true → p.state = .transfer) ∧
  (p.driver.voidRun ≠ 0 → p.state = .transfer) ∧
  (p.driver.pressurise.isSome = true → p.state = .pressurising) ∧
  (p.driver.settle.isSome = true → p.state = .settling) ∧
  (p.driver.settleLimit.isSome = true → p.state = .settling) ∧
  (p.driver.recoveryLimit.isSome = true → p.state = .recovery) ∧
  (p.driver.recoveryProving.isSome = true → p.state = .recovery)

/-- Every spot's timers are in place. -/
def State.timersInPlace (s : State) : Prop := ∀ sp : SpotId, (s.spots.get sp).timersInPlace

/-- The engine of a spot stands where the spot's state puts it: a line-up in LINING_UP, a stopped line-up in HELD with phase
LINE_UP, a close-down or the CLOSED CHECK in CLOSING (R11, R22, R122 to R125). -/
def Spot.engineInPlace (p : Spot) : Bool :=
  match p.engine with
  | .idle => true
  | .running ⟨.closeDown, _, _, _⟩ => decide (p.state = .closing)
  | .running ⟨.lineUpOverride, _, _, _⟩ => decide (p.state = .liningUp)
  | .running ⟨.lineUpConfigured, _, _, _⟩ => decide (p.state = .liningUp)
  | .stopped ⟨k, _, _, _⟩ _ =>
    decide (k ≠ .closeDown) && decide (p.state = .held) && decide (p.record.map (fun r => r.phase) = some .lineUp)
  | .closedCheck => decide (p.state = .closing)

/-- The entry of a spot in the pending order is ready (R169). -/
def State.readyPending (s : State) (sp : SpotId) : Bool := s.pendingOrder.any fun e => decide (e.spot = sp) && e.ready

/-- Every list in progress stands in place, a record is open except in VACANT and COMPLETE (section 1.2), its phase is LINE_UP
in ORDERED and LINING_UP (R4, R5), and with the supply on a spot in the pending order
is in CLOSING (R169), and its close-down has completed if its entry is ready (R170). -/
def State.enginesInPlace (s : State) : Prop :=
  ∀ sp : SpotId,
    (s.spots.get sp).engineInPlace = true ∧
    ((s.recordOf sp).isNone = true ↔ s.stateOf sp = .vacant ∨ s.stateOf sp = .complete) ∧
    (s.stateOf sp = .ordered ∨ s.stateOf sp = .liningUp → s.inPhase sp .lineUp = true) ∧
    (s.powered = true → s.inPending sp = true → s.stateOf sp = .closing) ∧
    (s.powered = true → s.readyPending sp = true → (s.spots.get sp).engine = .idle)

/-! ### Conditions on the quantities (chapter 2) -/

/-- The totals of a record are within 32 bits, and its carried remainders below their divisors: the raw remainder below the
K factor of its spot (R40, R46, R47). -/
def Record.bounded (kFactor : Nat) (r : Record) : Bool :=
  decide (r.rawRemainder < kFactor) && decide (r.standardRemainder < 10 ^ 10) && decide (r.massRemainder < 10 ^ 14) &&
    decide (r.grossLiquid ≤ Config.u32Max) && decide (r.grossVoid ≤ Config.u32Max) &&
    decide (r.standardVolume ≤ Config.u32Max) && decide (r.netMass ≤ Config.u32Max) &&
    decide (r.mismatch ≤ Config.u32Max)

/-- The quantities of every spot, open or retained, are within their ranges, and so are the totalisers (R40, R46 to R49). With
the supply on, a spot without an open record retains none (R7, R166), so that its K factor, which changes only then, bounds
no record of an earlier one. -/
def State.quantitiesBounded (s : State) : Prop :=
  ∀ sp : SpotId,
    (s.recordOf sp).all (Record.bounded (s.spotCfg.get sp).kFactor) = true ∧
    (s.spots.get sp).retained.all (fun k => k.record.bounded (s.spotCfg.get sp).kFactor) = true ∧
    (s.powered = true → s.recordOf sp = none → (s.spots.get sp).retained = none) ∧
    (s.spots.get sp).meter.totaliser < Config.totaliserModulus ∧ (s.spots.get sp).meter.totaliserGrams < 1000

/-! ### Conditions on tickets, authentication, bypasses and the pending order -/

/-- The ticket number that stands `k` places before a counter value (R165). -/
def numberBefore (counter k : Nat) : Nat :=
  if k < counter then counter - k else counter + Config.ticketNumberMax - k

/-- The ticket queue holds at most 32 tickets, whose numbers are the values the counter took last, in order, and the counter
is a ticket number (R165, R166). -/
def State.ticketsInOrder (s : State) : Prop :=
  s.tickets.length ≤ Config.ticketCapacity ∧ 1 ≤ s.ticketCounter ∧ s.ticketCounter ≤ Config.ticketNumberMax ∧
  s.tickets.map (fun t => t.number) =
    (List.range s.tickets.length).map (fun i => numberBefore s.ticketCounter (s.tickets.length - i))

/-- With a nonzero attempt limit the failure count never exceeds it, and at the limit the lockout flag is set (R180). -/
def State.lockoutArmed (s : State) : Prop :=
  s.unit.attemptLimit ≠ 0 →
    s.failures ≤ s.unit.attemptLimit ∧ (s.failures = s.unit.attemptLimit → s.lockout = true)

/-- At most two bypasses exist, on different functions (R141, section 7.6). -/
def State.bypassesFew (s : State) : Prop :=
  s.bypasses.length ≤ Config.bypassCapacity ∧ (s.bypasses.map fun b => (b.spot, b.function)).Nodup

/-- No spot stands twice in the pending order (R169). -/
def State.pendingOnce (s : State) : Prop := (s.pendingOrder.map fun e => e.spot).Nodup

/-! ### Conditions on the stored settings (R189) -/

/-- A list that LIST LOAD accepts: 1 to 16 steps, none naming LH (R120). -/
def listInRange (steps : List ListStep) : Bool :=
  !steps.isEmpty && decide (steps.length ≤ 16) && sparesLh steps

/-- A vessel record in range (section 3.1). -/
def VesselCfg.inRange (c : VesselCfg) : Bool := within 30 3600 c.ageLimit

/-- A compressor record in range (section 4.1). -/
def CompCfg.inRange (c : CompCfg) : Bool := within 5 60 c.changeover && within 5 120 c.runUp && within 5 60 c.runDown

/-- A link record in range (section 10.1). -/
def LinkCfg.inRange (c : LinkCfg) : Bool := within 1 247 c.address.toNat

/-- An analog scaling record in range for its channel (section 7.4). -/
def ScaleCfg.inRange (ch : ChannelId) (c : ScaleCfg) : Bool :=
  scaleEnd ch c.low && scaleEnd ch c.high && decide (c.low < c.high)

/-- Every stored setting is one that CONFIGURE or LIST LOAD accepts; a product entry once it is configured (R120, R189). -/
def State.settingsInRange (s : State) : Prop :=
  s.unit.inRange = true ∧ (∀ sp, (s.spotCfg.get sp).inRange = true) ∧
  (∀ p, (s.products.get p).configured = true → (s.products.get p).inRange = true) ∧
  (∀ v, (s.vesselCfg.get v).inRange = true) ∧ (∀ c, (s.compCfg.get c).inRange = true) ∧
  (∀ i, (s.lineCfg.get i).filterTime ∈ filterTimes) ∧
  (∀ sp, listInRange (s.lineUp.get sp) = true ∧ listInRange (s.closeDown.get sp) = true) ∧
  (∀ l, (s.linkCfg.get l).inRange = true) ∧ (∀ ch, (s.scaling.get ch).inRange ch = true)

end Sys2Proof.Machine
end

