-- ==== Sys2Proof/Certificates/Slice0/Obligations.lean ====
section
/-! DEFINITION. The statements about the controller, for the provers. Each docstring names the section of the manual, or the
rule, that its statement formalises, or says that it is the model's own choice. -/

open Sys2Proof Sys2Proof.Machine

/-! ### The step -/

/-- Section "What each step holds": a command at the front of the queue is taken off it and carried out. -/
def Obligations.StepTakesFrontCommand : Prop :=
  ∀ (c : Instr) (rest : List Instr) (s : State), step { s with pending := c :: rest } = exec c { s with pending := rest }

/-- The MODEL's choice (log 3): with no command waiting, a step is one millisecond. Every running timer of a spot (proving,
ullage wait, window, temperature hold, dwell, pressurise, stall, settle, settle limit, recovery limit, recovery proving,
strokes and disagreement), of a compressor, a line's candidate and a bypass goes down by one and stays at 0, a report age goes
up by one to 65,535 s at most, and nothing else moves. Without supply nothing does. -/
def Obligations.IdleStepIsAMillisecond : Prop :=
  ∀ s : State, s.pending = [] →
    (s.powered = false → step s = .next s) ∧
    (s.powered = true → ∃ t, step s = .next t ∧
      t = { s with spots := t.spots, vessels := t.vessels, comps := t.comps, lines := t.lines, bypasses := t.bypasses } ∧
      (∀ sp,
        let p := s.spots.get sp
        t.spots.get sp = { p with
          proving := p.proving.map (· - 1)
          ullageWait := p.ullageWait.map (· - 1)
          meter := { p.meter with
            window := p.meter.window.map (· - 1)
            hold := (t.spots.get sp).meter.hold }
          driver := { p.driver with
            dwell := p.driver.dwell.map (· - 1)
            pressurise := p.driver.pressurise.map (· - 1)
            stall := p.driver.stall.map (· - 1)
            settle := p.driver.settle.map (· - 1)
            settleLimit := p.driver.settleLimit.map (· - 1)
            recoveryLimit := p.driver.recoveryLimit.map (· - 1)
            recoveryProving := p.driver.recoveryProving.map (· - 1) }
          valves := (t.spots.get sp).valves } ∧
        (∀ n, p.meter.hold = .held n → (t.spots.get sp).meter.hold = .held (n - 1)) ∧
        (p.meter.hold = .live ∨ p.meter.hold = .substituted → (t.spots.get sp).meter.hold = p.meter.hold) ∧
        ∀ v, t.valve sp v = { s.valve sp v with
          stroke := (s.valve sp v).stroke.map fun k => { k with remaining := k.remaining - 1 }
          disagreement := (s.valve sp v).disagreement.map (· - 1) }) ∧
      (∀ v, t.vessels.get v = { s.vessels.get v with age := (s.vessels.get v).age.map fun ms => min (ms + 1) 65535000 }) ∧
      (∀ c, t.comps.get c = { s.comps.get c with timer := (s.comps.get c).timer.map (· - 1) }) ∧
      (∀ i, t.lines.get i = { s.lines.get i with candidate := (s.lines.get i).candidate.map fun w => (w.1 - 1, w.2 - 1) }) ∧
      t.bypasses = s.bypasses.map fun b => { b with remaining := b.remaining - 1 })

/-- The controller as delivered meets every condition that the statements below say a step keeps. -/
def Obligations.ResetMeetsEveryCondition : Prop :=
  State.reset.vesselsBalanced ∧ State.reset.darkWhenTripped ∧ State.reset.lhGuarded ∧ State.reset.laddersBounded ∧
  State.reset.timersInPlace ∧ State.reset.enginesInPlace ∧ State.reset.quantitiesBounded ∧ State.reset.ticketsInOrder ∧
  State.reset.lockoutArmed ∧ State.reset.bypassesFew ∧ State.reset.pendingOnce ∧ State.reset.settingsInRange

/-- Sections 1.8, 3.1, 4.7, 9.7, 10.3 and 11.1: the controller as delivered, right after its first power-up. That every raw
line is low then, and every compressor so IDLE at PUSH, is the MODEL's choice (log 8) and is not stated here. -/
def Obligations.ResetIsTheDeliveredController : Prop :=
  (∀ sp, State.reset.stateOf sp = .vacant ∧ State.reset.recordOf sp = none ∧
    (State.reset.spots.get sp).seat = .supervisory ∧ (State.reset.spotCfg.get sp).inService = false ∧
    State.reset.allCommandedClose sp ∧ State.reset.lineUp.get sp = defaultLineUp ∧
    State.reset.closeDown.get sp = defaultCloseDown) ∧
  (∀ v, (State.reset.vessels.get v).ullage = 0 ∧ (State.reset.vessels.get v).stale = true ∧
    (State.reset.vessels.get v).reservations = [] ∧ (State.reset.vesselCfg.get v).inService = true) ∧
  (∀ p, (State.reset.products.get p).configured = false) ∧ (∀ i, (State.reset.lineCfg.get i).function = none) ∧
  (∀ l, (State.reset.link l).authenticated = false ∧ (State.reset.link l).rx = .hunt ∧
    (State.reset.link l).exchange = .idle) ∧
  State.reset.clock = none ∧ State.reset.lock = .none ∧ State.reset.tickets = [] ∧ State.reset.ticketCounter = 1 ∧
  State.reset.failures = 0 ∧ State.reset.lockout = false ∧ State.reset.unitMask = 0 ∧ State.reset.spotMask = 0 ∧
  State.reset.latches = { Latches.blank with restarted := true, clockNotSet := true } ∧ State.reset.attention = true

/-! ### Frames and records -/

/-- Sections 10.1 and 10.2: every request that can be written down comes back whole from the frame that carries it, whatever
its kind, tag and body and whatever the unit address. -/
def Obligations.RequestsSurviveTheirFrames : Prop :=
  ∀ (address : Byte) (i : Instr) (l : Link) (kind tag : Byte) (body : List Byte),
    i.wellFormed = true → i.request = some (l, kind, tag, body) →
    ∃ bytes, encodeRequest address i = some bytes ∧ bytes.length = body.length + 6 ∧
      decodeRequest l address bytes = some i

/-- Section 10.1: a frame in which any one byte after its marker has been damaged, but for a length byte that has become
smaller, is taken for a valid frame at no point of its gathering, neither when complete nor before. Where the length byte has
become smaller the receiver tests at the end that it then gives, and takes the frame as valid if and only if the two bytes
there are the check of the frame so shortened: its kind and tag, and the first bytes of its body. (Bytes sent after the
damaged frame are not spoken of.) -/
def Obligations.OneDamagedByteIsCaught : Prop :=
  ∀ (address kind tag : Byte) (body : List Byte) (i : Nat) (b : Byte), body.length ≤ 240 →
    (frameBytes address kind tag body)[i]? ≠ none → (frameBytes address kind tag body)[i]? ≠ some b →
    let gathered (k : Nat) : List Byte := ((frameBytes address kind tag body).set i b).take k
    let shortened : Prop := i = 0 ∧ b.toNat < body.length
    let check := crc16 (b :: address :: kind :: tag :: body.take b.toNat)
    (¬shortened → ∀ (k : Nat) (kind' tag' : Byte) (body' : List Byte),
      judgeFrame address (gathered k) ≠ .valid kind' tag' body') ∧
    (shortened → ∀ (k : Nat) (kind' tag' : Byte) (body' : List Byte),
      judgeFrame address (gathered k) = .valid kind' tag' body' ↔
        k = b.toNat + 6 ∧ ((frameBytes address kind tag body).drop (b.toNat + 4)).take 2 = [Word.high check, Word.low check] ∧
        kind' = kind ∧ tag' = tag ∧ body' = body.take b.toNat)

/-- Sections 10.6 and 11.1: every record in range that CONFIGURE can carry is read back whole from its bytes, every field at
every value its range admits. (The unit record is not among them: READ CONFIG does not give the supervisor code.) -/
def Obligations.RecordsSurviveTheirBytes : Prop :=
  (∀ c : SpotCfg, c.inRange = true → (spotBytes c).length = 48 ∧ parseSpot (spotBytes c) = some c) ∧
  (∀ c : ProductCfg, c.inRange = true → (productBytes c).length = 7 ∧ parseProduct (productBytes c) = some c) ∧
  (∀ c : VesselCfg, c.inRange = true → (vesselBytes c).length = 3 ∧ parseVessel (vesselBytes c) = some c) ∧
  (∀ c : CompCfg, c.inRange = true → (compBytes c).length = 3 ∧ parseComp (compBytes c) = some c) ∧
  (∀ c : LineCfg, c.filterTime ∈ filterTimes → (lineBytes c).length = 5 ∧ parseLine (lineBytes c) = some c) ∧
  (∀ c : LinkCfg, c.inRange = true → (linkBytes c).length = 2 ∧ parseLink (linkBytes c) = some c) ∧
  (∀ (ch : ChannelId) (c : ScaleCfg), c.inRange ch = true →
    (scaleBytes c).length = 4 ∧ parseScale ch (scaleBytes c) = some c) ∧
  (∀ steps : List ListStep, listInRange steps = true →
    (listBytes steps).length = steps.length + 1 ∧ stepsOf ((listBytes steps).drop 1) = some steps)

/-! ### Conditions that every step keeps -/

/-- Section 3.2: for every vessel the committed quantity stays the sum of what is outstanding, and no reservation has more
outstanding than it was granted. -/
def Obligations.VesselsStayBalanced : Prop :=
  ∀ s t : State, s.vesselsBalanced → step s = .next t → t.vesselsBalanced

/-- Sections 9.4 and 9.5: the ticket queue stays at most 32 long, and its tickets stay numbered in the order in which the
counter took their numbers. -/
def Obligations.TicketsStayInOrder : Prop :=
  ∀ s t : State, s.ticketsInOrder → step s = .next t → t.ticketsInOrder

/-- Sections 7.6, 9.6 and 10.3: with a nonzero attempt limit the failure count never exceeds it, and at the limit the lockout
flag is set; at most two bypasses stand, on different functions; and no spot stands twice in the pending order. -/
def Obligations.LockoutAndShortTablesStayInOrder : Prop :=
  ∀ s t : State, step s = .next t →
    (s.lockoutArmed → t.lockoutArmed) ∧ (s.bypassesFew → t.bypassesFew) ∧ (s.pendingOnce → t.pendingOnce)

/-- Sections 4.1, 6.1 and 8.2: a spot out of service has all its valves commanded CLOSE, only an active compressor is
assigned, and while the site trip is active every valve is commanded CLOSE and no compressor is active. -/
def Obligations.RackStaysDarkWhileTripped : Prop :=
  ∀ s t : State, s.darkWhenTripped → step s = .next t → t.darkWhenTripped

/-- Sections 5.3 and 6.2: LH is commanded OPEN only in TRANSFER, and no list, stored, ordered, retained or running, names
it. -/
def Obligations.LhStaysGuarded : Prop :=
  ∀ s t : State, s.lhGuarded → step s = .next t → t.lhGuarded

/-- Section 5.2: every spot's ladder step stays between its floor step and 8. -/
def Obligations.LaddersStayBounded : Prop :=
  ∀ s t : State, s.laddersBounded → step s = .next t → t.laddersBounded

/-- Sections 1.3, 3.4 and 5.1: every timer of a spot runs only in the state it belongs to. -/
def Obligations.TimersStayInPlace : Prop :=
  ∀ s t : State, s.timersInPlace → step s = .next t → t.timersInPlace

/-- Sections 1.2, 1.3, 6.2 and 9.6: a list is in progress only in the states that run one, a record is open in every state but
VACANT and COMPLETE, and a spot whose ticket is pending is in CLOSING. -/
def Obligations.ListsAndRecordsStayInPlace : Prop :=
  ∀ s t : State, s.timersInPlace → s.enginesInPlace → step s = .next t → t.enginesInPlace

/-- Sections 2.5 and 2.6: totals stay within 32 bits, every carried remainder below its divisor (the raw remainder below the
spot's K factor, the standard remainder below 10^10, the mass remainder below 10^14), in the open and in the retained record;
totalisers stay below their modulus. The premises on settings and records are themselves kept (StoredSettingsStayLegal,
ListsAndRecordsStayInPlace). -/
def Obligations.QuantitiesStayBounded : Prop :=
  ∀ s t : State, s.settingsInRange → s.enginesInPlace → s.quantitiesBounded → step s = .next t → t.quantitiesBounded

/-- Sections 11.1 and 11.2: every stored setting stays one that CONFIGURE or LIST LOAD accepts; and once the metrology lock is
effective, no step ends it, changes a custody parameter of a spot, or changes a product entry but by configuring one that is
not configured. -/
def Obligations.StoredSettingsStayLegal : Prop :=
  ∀ s t : State, step s = .next t →
    (s.settingsInRange → t.settingsInRange) ∧
    (s.lock = .effective → t.lock = .effective ∧
      (∀ sp, (t.spotCfg.get sp).sameCustody (s.spotCfg.get sp) = true) ∧
      ∀ p, t.products.get p = s.products.get p ∨
        (s.products.get p).configured = false ∧ (t.products.get p).configured = true)

/-! ### Rules of the whole rack -/

/-- Section 10.2: a request that is refused changes nothing but its link, which sends the refusal, the code alone. The
exceptions are an AUTHENTICATE refused as REFUSED_AUTH (it is counted) and a VALVE COMMAND refused as busy (it latches
SEQUENCE_CONFLICT). -/
def Obligations.RefusedRequestsChangeNothing : Prop :=
  ∀ (s t : State) (c : Instr) (l : Link) (kind tag : Byte) (body : List Byte) (code : ResultCode),
    c.request = some (l, kind, tag, body) → s.takes l = true → exec c s = .next t → t.replyCode l = some code →
    code.refuses = true → ¬(kind = 0x40 ∧ code = .refusedAuth) → ¬(kind = 0x19 ∧ code = .refusedBusy) →
    t = (s.taken l).replied l tag kind code

/-- Sections 10.1 and 11.4: without supply only POWER_UP, SUPPLY_LOSS and the levels on the field's own lines act, where which
commands act then, and that a level change sets the raw and the filtered level of its own line, leaves that line no candidate
and changes nothing else, is the MODEL's reading of section 11.4 (log 16); with supply, a request whose marker arrived while
the exchange was BUSY gets no reply, is not taken, and latches LINK_OVERRUN with the mark of its link, whose receiver is back
in HUNT with its exchange, authentication and settings as they were. -/
def Obligations.WhatIsNotTakenChangesNothing : Prop :=
  (∀ s : State, s.powered = false →
    (∀ i level, exec (.rawLevelChange i level) s = .next (s.modLine i fun x =>
      { x with raw := level, filtered := level, candidate := none })) ∧
    ∀ c : Instr, c ≠ .powerUp → c ≠ .supplyLoss → (∀ i level, c ≠ .rawLevelChange i level) → exec c s = .next s) ∧
  ∀ (s : State) (c : Instr) (l : Link) (kind tag : Byte) (body : List Byte),
    c.request = some (l, kind, tag, body) → c.wellFormed = true → s.powered = true → (s.link l).overruns = true →
    ∃ t, exec c s = .next t ∧
      t = { s with links := t.links, latches := { s.latches with linkOverrun := s.latches.linkOverrun.set (linkIndex l) true } } ∧
      t.link l = { s.link l with rx := .hunt } ∧ ∀ m, m ≠ l → t.link m = s.link m

/-- Section 11.1: no command changes a stored setting but CONFIGURE, LIST LOAD, COMPRESSOR SERVICE, SET MASK and LOCK
METROLOGY; a restart only makes a pending lock effective. -/
def Obligations.SettingsChangeOnlyByRequest : Prop :=
  ∀ (s t : State) (c : Instr), exec c s = .next t →
    (∀ l tag body, c ≠ .configure l tag body) → (∀ l tag body, c ≠ .listLoad l tag body) →
    (∀ l tag body, c ≠ .compressorService l tag body) → (∀ l tag body, c ≠ .setMask l tag body) →
    (∀ l tag body, c ≠ .lockMetrology l tag body) →
    t.unit = s.unit ∧ t.spotCfg = s.spotCfg ∧ t.products = s.products ∧ t.vesselCfg = s.vesselCfg ∧
    t.compCfg = s.compCfg ∧ t.compService = s.compService ∧ t.lineCfg = s.lineCfg ∧ t.lineUp = s.lineUp ∧
    t.closeDown = s.closeDown ∧ t.linkCfg = s.linkCfg ∧ t.scaling = s.scaling ∧ t.unitMask = s.unitMask ∧
    t.spotMask = s.spotMask ∧ (t.lock = s.lock ∨ mayRestart c = true ∧ t.lock = s.lock.restarted)

/-- Sections 1.2, 1.3, 9.2 to 9.6: tickets join the queue at its tail and leave it only at its head, and only by RELEASE
TICKET. When a close-down completes, a record without TRANSFER and mass is discarded (decided before the window in progress is
converted, log 29); another has its ticket formed from the record with that window, its quality flags, its number and the
counter's advance, and placed when the pending order is empty and the queue has space, the spot going to COMPLETE; otherwise
it waits at the tail of the pending order. A record that stands in the order already, restored at a restart, takes its end
timestamp and turns ready. The serving places a ready head (the order of the departure test and the next serving is the
MODEL's choice, log 2). A trip takes its spot out of the order. In COMPLETE four unhealthy permissives send the spot to
VACANT. -/
def Obligations.TicketsJoinTheTailAndLeaveTheHead : Prop :=
  (∀ (s t : State) (c : Instr), exec c s = .next t →
    (∃ new, t.tickets = s.tickets ++ new) ∨
    ∃ l tag body new, c = .releaseTicket l tag body ∧ s.takes l = true ∧ s.tickets ≠ [] ∧ t.tickets = s.tickets.tail ++ new) ∧
  (∀ (s : State) (sp : SpotId) (r : Record), s.recordOf sp = some r →
    let u := s.closeLastWindow sp
    let placed (t : State) (endTime : Nat) : Prop := ∃ (x : Ticket) (r' : Record),
      t.tickets = s.tickets ++ [x] ∧ u.recordOf sp = some r' ∧ x.number = s.ticketCounter ∧ t.ticketCounter = (if 999999 ≤ s.ticketCounter then 1 else s.ticketCounter + 1) ∧
      x.spot = sp ∧ x.carId = r.order.carId ∧ x.product = r.order.product ∧ x.vessel = r.order.vessel ∧
      x.mode = r.order.mode ∧ x.startTimestamp = r.startTimestamp ∧ x.endTimestamp = endTime ∧
      x.grossLiquid = r'.grossLiquid ∧ x.grossVoid = r'.grossVoid ∧ x.standardVolume = r'.standardVolume ∧
      x.netMass = r'.netMass ∧ x.overrun = r'.overrun ∧ x.endCause = r.endCause ∧ x.tripCause = r.tripCause ∧
      x.recoveryEnd = r.recoveryEnd ∧ x.tempExtremes = r'.tempExtremes ∧ x.totaliser = (u.spots.get sp).meter.totaliser ∧
      x.quality.singleChannel = r'.failover ∧ x.quality.pulseMismatch = r'.pulseFault ∧ x.quality.tempHeld = r'.tempHeld ∧
      x.quality.tempSubstituted = r'.tempSubstituted ∧ x.quality.tempClamped = r'.tempClamped ∧
      (x.quality.voidExcluded = true ↔ 0 < r'.grossVoid) ∧ x.quality.recoveryIncomplete = r.recoveryIncomplete ∧
      (x.quality.overrun = true ↔ (∃ kg, r.order.mode = .preset kg) ∧
        (s.spotCfg.get sp).overrunTolerance * 1000 < r'.overrun) ∧
      (x.quality.clockNotSet = true ↔ endTime = 0 ∨ r.startTimestamp = some 0) ∧
      t.stateOf sp = .complete ∧ (t.spots.get sp).completed = some (r.order.carId, x.number) ∧ t.recordOf sp = none ∧
      (t.spots.get sp).retained = none ∧ (t.spots.get sp).meter.window = none ∧ t.latches.ticketReady = true
    let t := s.closeDownComplete sp
    (s.stateOf sp = .closing → s.inPending sp = false → r.enteredTransfer = false → r.netMass = 0 →
      t.1.stateOf sp = .vacant ∧ t.1.recordOf sp = none ∧ (t.1.spots.get sp).retained = none ∧ t.1.tickets = s.tickets ∧
      t.1.ticketCounter = s.ticketCounter ∧ t.1.pendingOrder = s.pendingOrder) ∧
    (s.stateOf sp = .closing → r.enteredTransfer = true ∨ 0 < r.netMass →
      (s.pendingOrder = [] → s.tickets.length < 32 →
        placed t.1 s.clockValue ∧ t.1.pendingOrder = [] ∧ t.2 = [.departureTest sp]) ∧
      (s.inPending sp = false → s.pendingOrder ≠ [] ∨ 32 ≤ s.tickets.length →
        t.1.stateOf sp = .closing ∧ t.1.recordOf sp = some { r with ticketPending := true, endTimestamp := some s.clockValue } ∧
        (t.1.spots.get sp).retained.map (fun k => k.record) = t.1.recordOf sp ∧
        t.1.pendingOrder = s.pendingOrder ++ [⟨sp, true⟩] ∧ t.1.tickets = s.tickets ∧
        (32 ≤ s.tickets.length → t.1.latches.ticketQueueFull = true) ∧
        (s.tickets.length < 32 → t.1.latches = s.latches))) ∧
    (s.stateOf sp = .closing → s.inPending sp = true → t.2 = [.serveTickets] ∧ t.1.readyPending sp = true ∧
      t.1.stateOf sp = .closing ∧ t.1.recordOf sp = some { r with endTimestamp := some s.clockValue } ∧
      (t.1.spots.get sp).retained.map (fun k => k.record) = some { r with endTimestamp := some s.clockValue } ∧
      t.1.tickets = s.tickets ∧ t.1.pendingOrder.map (fun e => e.spot) = s.pendingOrder.map (fun e => e.spot)) ∧
    (∀ ready rest, s.pendingOrder = ⟨sp, ready⟩ :: rest →
      (ready = true → s.tickets.length < 32 → placed (s.react .serveTickets).1 s.clockValue ∧
        (s.react .serveTickets).1.pendingOrder = rest.filter (fun e => !decide (e.spot = sp)) ∧
        (s.react .serveTickets).2 = [.departureTest sp, .serveTickets]) ∧
      (ready = false ∨ 32 ≤ s.tickets.length → s.react .serveTickets = (s, []))) ∧
    (∀ cause, (s.stateOf sp).trippable = true →
      (s.react (.spotTrip sp cause)).1.pendingOrder = s.pendingOrder.filter (fun e => !decide (e.spot = sp)) ∧
      ((s.react (.spotTrip sp cause)).1.recordOf sp).map (fun r => (r.ticketPending, r.endCause, r.tripCause)) =
        some (false, some (r.endCause.getD .tripped), some cause) ∧
      (s.inPending sp = true → .serveTickets ∈ (s.react (.spotTrip sp cause)).2))) ∧
  ∀ (s : State) (sp : SpotId),
    (s.stateOf sp = .complete → (∀ f ∈ permissives, s.reading (.spot sp f) = false) →
      (s.react (.departureTest sp)).1.stateOf sp = .vacant ∧
      ((s.react (.departureTest sp)).1.spots.get sp).completed = none) ∧
    (s.stateOf sp ≠ .complete ∨ (∃ f ∈ permissives, s.reading (.spot sp f) = true) →
      s.react (.departureTest sp) = (s, []))

/-- Section 8.4: a full snapshot slot keeps its snapshot until READ SNAPSHOT or a restart. A later entry to TRIPPED raises its
count of later trips by one, up to 255; no other command changes it. (The count after SPOT TRIP RESET is only bounded
here.) -/
def Obligations.SnapshotsAreKeptUntilRead : Prop :=
  ∀ (s t : State) (c : Instr) (sp : SpotId) (x : Snapshot), (s.spots.get sp).snapshot = some x → exec c s = .next t →
    mayRestart c = false → (∀ l tag body, c ≠ .readSnapshot l tag body) →
    ∃ n, (t.spots.get sp).snapshot = some { x with laterTrips := n } ∧ (x.laterTrips ≤ 255 → x.laterTrips ≤ n ∧ n ≤ 255) ∧
      (s.timersInPlace → s.enginesInPlace → (∀ l tag body, c ≠ .spotTripReset l tag body) →
        n = if s.stateOf sp ≠ .tripped ∧ t.stateOf sp = .tripped then min (x.laterTrips + 1) 255 else x.laterTrips)

/-- Sections 1.3 and 8.3: a spot in TRIPPED leaves it only by SPOT TRIP RESET or a restart. -/
def Obligations.TrippedSpotsStayTripped : Prop :=
  ∀ (s t : State) (c : Instr) (sp : SpotId), s.timersInPlace → s.enginesInPlace → s.stateOf sp = .tripped →
    exec c s = .next t → mayRestart c = false → (∀ l tag body, c ≠ .spotTripReset l tag body) →
    t.stateOf sp = .tripped

/-! ### Requests that read -/

/-- Sections 1.7, 3.7, 4.6, 7.7, 8.4, 9.5, 10.5: the READ requests, taken by a link, answer DONE with the values as they stand
and change nothing but the link, and READ SNAPSHOT its slot, which it empties. A STATUS body is 59 bytes, a ticket body 68.
With no ticket, or no snapshot, the answer is REFUSED_EMPTY; for a target that does not exist, REFUSED_FIELD. -/
def Obligations.ReadsReportWhatStands : Prop :=
  (∀ (s : State) (l : Link) (tag : Byte), s.takes l = true →
      (exec (.readStatus l tag []) s = .next ((s.taken l).reply l tag 0x01 ⟨.done, .bytes s.statusBytes, .nothing⟩) ∧
        s.statusBytes.length = 59) ∧
      (∀ sp, exec (.readSpot l tag (itemBody sp)) s =
        .next ((s.taken l).reply l tag 0x02 ⟨.done, .spot (s.spotView sp), .nothing⟩)) ∧
      (∀ v, exec (.readVessel l tag (itemBody v)) s =
        .next ((s.taken l).reply l tag 0x03 ⟨.done, .vessel (s.vesselView v), .nothing⟩)) ∧
      (∀ c, exec (.readCompressor l tag (itemBody c)) s =
        .next ((s.taken l).reply l tag 0x04 ⟨.done, .compressor (s.compView c), .nothing⟩)) ∧
      (∀ k : Fin 15, ∃ v, s.inputsView (k.val + 1) = some v ∧ exec (.readInputs l tag (itemBody k)) s =
        .next ((s.taken l).reply l tag 0x05 ⟨.done, .inputs v, .nothing⟩)) ∧
      (∀ code index target, code < 256 → index < 256 → targetOf code index = some target →
        exec (.readConfig l tag (be 1 code ++ be 1 index)) s =
          .next ((s.taken l).reply l tag 0x08 ⟨.done, .bytes (s.configBytes target), .nothing⟩)) ∧
      (∀ code index, code < 256 → index < 256 → targetOf code index = none →
        exec (.readConfig l tag (be 1 code ++ be 1 index)) s = .next ((s.taken l).replied l tag 0x08 .refusedField))) ∧
  (∀ (s : State) (l : Link) (tag : Byte), s.takes l = true →
      (∀ x rest, s.tickets = x :: rest → x.bytes.length = 68 ∧ exec (.readTicket l tag []) s =
        .next ((s.taken l).reply l tag 0x06 ⟨.done, .bytes (s.ticketReply x), .nothing⟩)) ∧
      (s.tickets = [] → exec (.readTicket l tag []) s = .next ((s.taken l).replied l tag 0x06 .refusedEmpty)) ∧
      ∀ sp,
        (∀ x, (s.spots.get sp).snapshot = some x → exec (.readSnapshot l tag (itemBody sp)) s =
          .next (((s.taken l).modSpot sp fun p => { p with snapshot := none }).reply l tag 0x07
            ⟨.done, .snapshot x, .nothing⟩)) ∧
        ((s.spots.get sp).snapshot = none →
          exec (.readSnapshot l tag (itemBody sp)) s = .next ((s.taken l).replied l tag 0x07 .refusedEmpty)))

/-! ### Requests aimed at a spot -/

/-- Section 1.6: SEAT TAKE gives the seat in the five states that allow it and is otherwise refused as busy; SEAT YIELD from
the seat holder gives the seat to the supervisory link, and from the other link is refused. Nothing else of the spot
changes. -/
def Obligations.SeatRequestsMoveTheSeatAlone : Prop :=
  ∀ (s : State) (l : Link) (tag : Byte) (sp : SpotId), s.takes l = true →
    (s.stateOf sp ∈ [SpotState.vacant, .ordered, .ready, .held, .complete] → exec (.seatTake l tag (itemBody sp)) s =
      .next (((s.taken l).modSpot sp fun p => { p with seat := l }).replied l tag 0x1A .done)) ∧
    (s.stateOf sp ∉ [SpotState.vacant, .ordered, .ready, .held, .complete] → exec (.seatTake l tag (itemBody sp)) s =
      .next ((s.taken l).replied l tag 0x1A .refusedBusy)) ∧
    ((s.spots.get sp).seat = l → exec (.seatYield l tag (itemBody sp)) s =
      .next (((s.taken l).modSpot sp fun p => { p with seat := .supervisory }).replied l tag 0x1B .done)) ∧
    ((s.spots.get sp).seat ≠ l → exec (.seatYield l tag (itemBody sp)) s =
      .next ((s.taken l).replied l tag 0x1B .refusedSeat))

/-- R10: LIST CLEAR from the seat holder removes the override of an order in ORDERED, with or without one, and is refused in
every other state; from the other link it is refused. The configured list is then the one that will run; it does not
change. -/
def Obligations.ListClearRemovesTheOverride : Prop :=
  ∀ (s : State) (l : Link) (tag : Byte) (sp : SpotId), s.takes l = true →
    ((s.spots.get sp).seat = l → s.stateOf sp = .ordered → exec (.listClear l tag (itemBody sp)) s =
      .next (((s.taken l).modSpot sp fun p => { p with
        record := p.record.map fun r => { r with order := { r.order with lineUpOverride := none } } }).replied l tag 0x11
          .done)) ∧
    ((s.spots.get sp).seat = l → s.stateOf sp ≠ .ordered → exec (.listClear l tag (itemBody sp)) s =
      .next ((s.taken l).replied l tag 0x11 .refusedState)) ∧
    ((s.spots.get sp).seat ≠ l → exec (.listClear l tag (itemBody sp)) s =
      .next ((s.taken l).replied l tag 0x11 .refusedSeat)) ∧
    ∀ t, exec (.listClear l tag (itemBody sp)) s = .next t → t.lineUp = s.lineUp ∧ t.closeDown = s.closeDown ∧
      ((s.spots.get sp).seat = l → s.stateOf sp = .ordered → t.lineUpOf sp = (.lineUpConfigured, s.lineUp.get sp))

/-- Sections 1.1, 1.2 and 2.1: a CAR ORDER whose fields pass opens a record: the spot enters ORDERED with the order stored,
phase LINE_UP, both pulse channels healthy with A primary, a full window, the ladder step at the floor, and the proving timer
running exactly if all four permissives read healthy. Where the spot takes no order, or a field fails, it is refused. A body's
fields pass exactly when each is in its range; then the preset mass above 120,000 kg and a block outside 500 to 20,000 kg are
clamped, with DONE_CLAMPED, and an absent block is the spot's block size. -/
def Obligations.CarOrderOpensTheRecord : Prop :=
  (∀ (s : State) (l : Link) (tag : Byte) (body : List Byte) (sp : SpotId), s.takes l = true → orderShape body = true →
    oneBased 8 (field body 0 1) = some sp → (s.spots.get sp).seat = l →
    (∀ o clamped, s.stateOf sp = .vacant → (s.spotCfg.get sp).inService = true → s.siteTrip.active = false →
      s.parseOrder sp body = some (o, clamped) → ∃ t, exec (.carOrder l tag body) s = .next t ∧
        t.replyCode l = some (if clamped then .doneClamped else .done) ∧ t.stateOf sp = .ordered ∧
        t.recordOf sp = some (Record.opened o) ∧ (t.spots.get sp).meter.window = some 500 ∧
        (t.spots.get sp).meter.countA = 0 ∧ (t.spots.get sp).meter.countB = 0 ∧
        (t.spots.get sp).meter.primary = .a ∧ (t.spots.get sp).meter.health = .both ∧
        (t.spots.get sp).driver.step = (s.spotCfg.get sp).floorStep ∧
        (t.spots.get sp).proving =
          (if s.allHealthy sp then some (seconds (s.spotCfg.get sp).provingTime) else none) ∧
        s.onlySpot t sp) ∧
    (s.takesOrder sp = false → exec (.carOrder l tag body) s = .next ((s.taken l).replied l tag 0x10 .refusedState)) ∧
    (s.takesOrder sp = true → s.parseOrder sp body = none →
      exec (.carOrder l tag body) s = .next ((s.taken l).replied l tag 0x10 .refusedField))) ∧
  ∀ (s : State) (sp : SpotId) (body : List Byte),
    let id := (body.drop 2).take (field body 1 1)
    let presence := field body 17 1
    let preset := field body 18 4
    let block := field body 22 2
    let target := field body 24 2
    let passes : Prop :=
      1 ≤ field body 1 1 ∧ field body 1 1 ≤ 12 ∧ (∀ x ∈ id, 0x20 ≤ x.toNat ∧ x.toNat ≤ 0x7E) ∧
      (∃ p : ProductId, field body 14 1 = p.val + 1 ∧ (s.products.get p).configured = true) ∧
      (∃ v : VesselId, field body 15 1 = v.val + 1 ∧ (s.vesselCfg.get v).inService = true) ∧
      (field body 16 1 = 1 ∧ presence.testBit 0 = true ∧ preset ≠ 0 ∨
        field body 16 1 = 2 ∧ presence.testBit 0 = false) ∧
      (presence.testBit 2 = true → 50 ≤ target ∧ target ≤ 800 ∧ (s.spotCfg.get sp).vacuumGuard + 20 ≤ target) ∧
      (presence.testBit 3 = true → ∃ steps, stepsOf (body.drop 27) = some steps) ∧ presence < 16
    (¬passes → s.parseOrder sp body = none) ∧
    (passes → ∃ o clamped, s.parseOrder sp body = some (o, clamped) ∧ o.carId = id ∧
      field body 14 1 = o.product.val + 1 ∧ field body 15 1 = o.vessel.val + 1 ∧
      o.mode = (if field body 16 1 = 1 then .preset (min preset 120000) else .empty) ∧
      o.block = (if presence.testBit 1 then max 500 (min 20000 block) else (s.spotCfg.get sp).blockSize) ∧
      o.recoveryTarget = (if presence.testBit 2 then some target else none) ∧
      o.lineUpOverride = (if presence.testBit 3 then stepsOf (body.drop 27) else none) ∧
      (clamped = true ↔ field body 16 1 = 1 ∧ 120000 < preset ∨
        presence.testBit 1 = true ∧ (block < 500 ∨ 20000 < block)))

/-- Sections 1.3, 4.4 and 4.5: START in READY sets the phase to LIQUID and sends the spot to AWAIT_COMPRESSOR at the tail of the
wait queue for PUSH; the arbiter acts at once, and the reply DONE follows what it sets off. With no compressor free that is
nothing. In every other state START is refused. -/
def Obligations.StartJoinsTheQueue : Prop :=
  ∀ (s : State) (l : Link) (tag : Byte) (sp : SpotId), s.takes l = true → (s.spots.get sp).seat = l →
    (s.stateOf sp = .ready → ∃ u : State,
      exec (.start l tag (itemBody sp)) s = .next ((Reacted.settled (u, [.arbiter])).replied l tag 0x12 .done) ∧
      u = { s.taken l with spots := u.spots, queue := s.queue ++ [⟨sp, .push, s.clockValue⟩] } ∧
      (s.modSpot sp fun p => { p with record := p.record.map fun r => { r with phase := .liquid } }).entered u sp
        .awaitCompressor id) ∧
    (s.stateOf sp = .ready → s.noneIdle → ∃ t, exec (.start l tag (itemBody sp)) s = .next t ∧
      t.replyCode l = some .done ∧ t.stateOf sp = .awaitCompressor ∧
      t.recordOf sp = (s.recordOf sp).map (fun r => { r with phase := .liquid, holdCause := none }) ∧
      t.queue = s.queue ++ [⟨sp, .push, s.clockValue⟩] ∧ t.latches = s.latches ∧ s.onlyHoldings t sp) ∧
    (s.stateOf sp ≠ .ready → exec (.start l tag (itemBody sp)) s =
      .next ((s.taken l).replied l tag 0x12 .refusedState))

/-- Sections 1.3, 3.5, 4.2 and 5.6: STOP, from either link, in a state of the liquid side sends the spot to SETTLING with end
cause STOPPED, the settle limit runs, and its reservations and request and then its compressor are given up, before the car
pressure is tested (the order of these is the MODEL's choice, log 2); where no other spot waits for what is given up, and the
car is not over its pressure, nothing more follows, and LH of a spot in service is commanded closed where it comes from TRANSFER. -/
def Obligations.StopOnTheLiquidSideSettles : Prop :=
  ∀ (s : State) (l : Link) (tag : Byte) (sp : SpotId), s.takes l = true →
    (s.stateOf sp ∈ [SpotState.liningUp, .ready, .pressurising, .transfer, .paused .ullage, .paused .compressor] ∨
      s.stateOf sp ∈ [SpotState.awaitCompressor, .held] ∧ s.inPhase sp .recovery = false) →
    (∃ u : State, exec (.stop l tag (itemBody sp)) s = .next ((Reacted.settled (u,
        [.releaseStorage sp, .releaseCompressor sp false, .overpressureTest sp])).replied l tag 0x13 .done) ∧
      u = { s.taken l with spots := u.spots, queue := s.queue.filter fun e => !decide (e.spot = sp) } ∧
      (∀ q, q ≠ sp → u.spots.get q = s.spots.get q) ∧ u.stateOf sp = .settling ∧
      u.recordOf sp = (s.recordOf sp).map (fun r => { r with endCause := some .stopped, holdCause := none }) ∧
      (u.spots.get sp).engine = .idle ∧ (u.spots.get sp).meter = (s.spots.get sp).meter ∧
      (u.spots.get sp).driver.settleLimit = some 60000 ∧
      (u.spots.get sp).driver.settle =
        (if (s.spots.get sp).meter.flow then none else some (seconds (s.spotCfg.get sp).settleTime))) ∧
    (s.noOtherWaits sp → s.pressureSafe sp = true → ∃ t, exec (.stop l tag (itemBody sp)) s = .next t ∧ t.replyCode l = some .done ∧ t.stateOf sp = .settling ∧
      t.recordOf sp = (s.recordOf sp).map (fun r => { r with endCause := some .stopped, holdCause := none }) ∧
      (t.spots.get sp).engine = .idle ∧ (t.spots.get sp).driver.settleLimit = some 60000 ∧
      (s.stateOf sp = .transfer → (s.spotCfg.get sp).inService = true → (t.valve sp .lh).command = .toClose) ∧
      t.latches = s.latches ∧ s.gaveUp t sp ∧ s.onlyHoldings t sp)

/-- Sections 1.3 and 6.3: ABORT, from either link, in a state of the liquid side sends the spot to SETTLING with end cause
ABORTED: all five valves of a spot in service are commanded CLOSE, a list is abandoned, and everything held is given up at
once, the compressor by an immediate release and before the storage, and before the car pressure is tested (the order is the
MODEL's choice, log 2). In SETTLING the spot stays there with the end cause ABORTED and its settle timing as it was. Where no
other spot waits for what is given up, and the car is not over its pressure, nothing more follows. -/
def Obligations.AbortOnTheLiquidSideSettles : Prop :=
  (∀ (s : State) (l : Link) (tag : Byte) (sp : SpotId), s.takes l = true →
    let early : Prop :=
      s.stateOf sp ∈ [SpotState.liningUp, .ready, .pressurising, .transfer, .paused .ullage, .paused .compressor] ∨
        s.stateOf sp ∈ [SpotState.awaitCompressor, .held] ∧ s.inPhase sp .recovery = false
    early ∨ s.stateOf sp = .settling →
    ∃ (u : State) (last : List Reaction), exec (.abort l tag (itemBody sp)) s =
        .next ((Reacted.settled (u, [.releaseCompressor sp true, .releaseStorage sp] ++ last)).replied l tag 0x14 .done) ∧
      u = { s.taken l with spots := u.spots, queue := u.queue } ∧ (∀ q, q ≠ sp → u.spots.get q = s.spots.get q) ∧
      u.stateOf sp = .settling ∧ (u.spots.get sp).engine = .idle ∧ (u.spots.get sp).meter = (s.spots.get sp).meter ∧
      ((s.spotCfg.get sp).inService = true → u.allCommandedClose sp) ∧
      (early → last = [.overpressureTest sp] ∧ u.queue = s.queue.filter (fun e => !decide (e.spot = sp)) ∧
        u.recordOf sp = (s.recordOf sp).map (fun r => { r with endCause := some .aborted, holdCause := none }) ∧
        (u.spots.get sp).driver.settleLimit = some 60000 ∧
        (u.spots.get sp).driver.settle =
          (if (s.spots.get sp).meter.flow then none else some (seconds (s.spotCfg.get sp).settleTime))) ∧
      (s.stateOf sp = .settling → last = [] ∧ u.queue = s.queue ∧
        u.recordOf sp = (s.recordOf sp).map (fun r => { r with endCause := some .aborted }) ∧
        (u.spots.get sp).driver = (s.spots.get sp).driver)) ∧
  ∀ (s : State) (l : Link) (tag : Byte) (sp : SpotId), s.takes l = true → s.noOtherWaits sp → s.pressureSafe sp = true →
    (s.stateOf sp ∈ [SpotState.liningUp, .ready, .pressurising, .transfer, .paused .ullage, .paused .compressor] ∨
      s.stateOf sp ∈ [SpotState.awaitCompressor, .held] ∧ s.inPhase sp .recovery = false ∨
      s.stateOf sp = .settling ∧ s.queue = []) →
    ∃ t, exec (.abort l tag (itemBody sp)) s = .next t ∧ t.replyCode l = some .done ∧ t.stateOf sp = .settling ∧
      (t.recordOf sp).map (fun r => r.endCause) = (s.recordOf sp).map (fun _ => some .aborted) ∧
      (t.spots.get sp).engine = .idle ∧ ((s.spotCfg.get sp).inService = true → t.allCommandedClose sp) ∧
      t.latches = s.latches ∧ s.gaveUp t sp ∧ s.onlyHoldings t sp

/-- Sections 1.3 and 6.3: STOP, SPOT RESET and ABORT before the line-up and after the close-down. In ORDERED each closes the
record without a ticket; in COMPLETE only SPOT RESET acts; in CLOSING and SETTLING STOP is DONE and changes nothing; in VACANT
and TRIPPED all are refused; ABORT in CLOSING with the close-down complete de-energises and leaves the spot waiting; with a
close-down in progress the CLOSED CHECK takes its place, the record unchanged, or, with all five valves showing CLOSED, the
close-down completes at once and the record has the outcome of a completed close-down. That this outcome is decided before the
window in progress is converted, so that a record without TRANSFER and mass earns no ticket by it, is the MODEL's choice (log
29). -/
def Obligations.RequestsOutsideTheUnloading : Prop :=
  ∀ (s : State) (l : Link) (tag : Byte) (sp : SpotId), s.takes l = true →
    (s.stateOf sp = .ordered → ∃ t, exec (.stop l tag (itemBody sp)) s = .next t ∧ t.replyCode l = some .done ∧
      t.stateOf sp = .vacant ∧ t.recordOf sp = none ∧ (t.spots.get sp).meter.window = none ∧ t.tickets = s.tickets) ∧
    (s.stateOf sp = .ordered → ∃ t, exec (.abort l tag (itemBody sp)) s = .next t ∧ t.replyCode l = some .done ∧
      t.stateOf sp = .vacant ∧ t.recordOf sp = none ∧ t.tickets = s.tickets ∧
      ((s.spotCfg.get sp).inService = true → t.allCommandedClose sp)) ∧
    (s.stateOf sp = .ordered → (s.spots.get sp).seat = l → ∃ t, exec (.spotReset l tag (itemBody sp)) s = .next t ∧
      t.replyCode l = some .done ∧ t.stateOf sp = .vacant ∧ t.recordOf sp = none ∧ (t.spots.get sp).proving = none ∧
      t.tickets = s.tickets) ∧
    (s.stateOf sp = .complete → (s.spots.get sp).seat = l → ∃ t, exec (.spotReset l tag (itemBody sp)) s = .next t ∧
      t.replyCode l = some .done ∧ t.stateOf sp = .vacant ∧ (t.spots.get sp).completed = none ∧ s.onlySpot t sp) ∧
    (s.stateOf sp ∉ [SpotState.ordered, .complete] → (s.spots.get sp).seat = l → exec (.spotReset l tag (itemBody sp)) s =
      .next ((s.taken l).replied l tag 0x17 .refusedState)) ∧
    (s.stateOf sp ∈ [SpotState.closing, .settling] → exec (.stop l tag (itemBody sp)) s =
      .next ((s.taken l).replied l tag 0x13 .done)) ∧
    (s.stateOf sp ∈ [SpotState.vacant, .complete, .tripped] →
      exec (.stop l tag (itemBody sp)) s = .next ((s.taken l).replied l tag 0x13 .refusedState) ∧
      exec (.abort l tag (itemBody sp)) s = .next ((s.taken l).replied l tag 0x14 .refusedState)) ∧
    (s.stateOf sp = .closing → (s.spots.get sp).engine = .idle → ∃ t, exec (.abort l tag (itemBody sp)) s = .next t ∧
      t.replyCode l = some .done ∧ t.stateOf sp = .closing ∧ t.recordOf sp = s.recordOf sp ∧
      ((s.spotCfg.get sp).inService = true → t.allCommandedClose sp) ∧ s.onlySpot t sp) ∧
    (s.stateOf sp = .closing → (s.spots.get sp).engine ≠ .idle → s.allClosed sp = false →
      ∃ t, exec (.abort l tag (itemBody sp)) s = .next t ∧ t.replyCode l = some .done ∧ t.stateOf sp = .closing ∧
      (t.spots.get sp).engine = .closedCheck ∧ t.recordOf sp = s.recordOf sp ∧
      ((s.spotCfg.get sp).inService = true → t.allCommandedClose sp) ∧ s.onlySpot t sp) ∧
    (∀ r, s.stateOf sp = .closing → (s.spots.get sp).engine ≠ .idle → s.allClosed sp = true → s.recordOf sp = some r →
      ∃ t, exec (.abort l tag (itemBody sp)) s = .next t ∧ t.replyCode l = some .done ∧ (t.spots.get sp).engine = .idle ∧
      ((s.spotCfg.get sp).inService = true → t.allCommandedClose sp) ∧
      let ticketed (x : Ticket) : Prop := x.spot = sp ∧ x.number = s.ticketCounter ∧ x.endTimestamp = s.clockValue ∧
        t.recordOf sp = none ∧ t.stateOf sp = (if s.allUnhealthy sp then .vacant else .complete)
      (s.inPending sp = false → r.enteredTransfer = false → r.netMass = 0 →
        t.stateOf sp = .vacant ∧ t.recordOf sp = none ∧ t.tickets = s.tickets ∧ t.pendingOrder = s.pendingOrder) ∧
      (s.inPending sp = false → r.enteredTransfer = true ∨ 0 < r.netMass →
        (s.pendingOrder = [] → s.tickets.length < 32 → ∃ x, t.tickets = s.tickets ++ [x] ∧ ticketed x) ∧
        (s.pendingOrder ≠ [] ∨ 32 ≤ s.tickets.length →
          t.stateOf sp = .closing ∧ t.tickets = s.tickets ∧ t.pendingOrder = s.pendingOrder ++ [⟨sp, true⟩] ∧
          t.recordOf sp = some { r with ticketPending := true, endTimestamp := some s.clockValue })) ∧
      ∀ e rest, s.inPending sp = true → s.pendingOrder = e :: rest →
        (e.spot = sp → s.tickets.length < 32 → ∃ x new, t.tickets = s.tickets ++ x :: new ∧ ticketed x) ∧
        (e.spot ≠ sp ∧ e.ready = false ∨ 32 ≤ s.tickets.length →
          t.stateOf sp = .closing ∧ t.readyPending sp = true ∧ t.tickets = s.tickets ∧
          t.recordOf sp = some { r with endTimestamp := some s.clockValue }))

/-- Sections 1.3, 5.3 and 5.4: HOLD (in the states that take it, with reply DONE), PRESSURISE_EXPIRY and STALL_EXPIRY send the
spot to HELD with their hold cause; the phase and the quantities stay, LH is closed, and what the spot held is given up: the
compressor by a normal release, then the storage, before the car pressure is tested (the order is the MODEL's choice, log 2).
Where no other spot waits for it, and the car is not over its pressure, nothing more follows. In every other state HOLD is
REFUSED_STATE. -/
def Obligations.EntriesToHeldGiveUpWhatIsHeld : Prop :=
  (∀ (s : State) (l : Link) (tag : Byte) (sp : SpotId), s.takes l = true →
    s.stateOf sp ∉ [SpotState.pressurising, .transfer, .paused .ullage, .paused .compressor, .recovery] →
    exec (.hold l tag (itemBody sp)) s = .next ((s.taken l).replied l tag 0x15 .refusedState)) ∧
  (∀ (s : State) (sp : SpotId),
    let givesUp : List Reaction := [.releaseCompressor sp false, .releaseStorage sp, .overpressureTest sp]
    let held (before : State) (cause : HoldCause) (u : State) : Prop := ∃ w : State,
      w = { before with spots := w.spots, queue := s.queue.filter fun e => !decide (e.spot = sp) } ∧
      before.entered w sp .held id ∧
      u = w.modSpot sp fun p => { p with record := p.record.map fun r => { r with holdCause := some cause } }
    (∀ l tag, s.takes l = true →
      s.stateOf sp ∈ [SpotState.pressurising, .transfer, .paused .ullage, .paused .compressor, .recovery] →
      ∃ u, exec (.hold l tag (itemBody sp)) s = .next ((Reacted.settled (u, givesUp)).replied l tag 0x15 .done) ∧
        held (s.taken l) .operator u) ∧
    (s.powered = true → (s.spots.get sp).driver.pressurise = some 0 →
      ∃ u, exec (.pressuriseExpiry sp) s = .next (Reacted.settled (u, givesUp)) ∧ held s .pressuriseTimeout u) ∧
    (s.powered = true → (s.spots.get sp).driver.stall = some 0 →
      ∃ u, exec (.stallExpiry sp) s = .next (Reacted.settled (u, givesUp)) ∧ held s .stall u)) ∧
  ∀ (s : State) (c : Instr) (cause : HoldCause) (sp : SpotId), s.powered = true → s.noOtherWaits sp →
    s.pressureSafe sp = true →
    ((∃ l tag, c = .hold l tag (itemBody sp) ∧ cause = .operator ∧ s.takes l = true ∧
        s.stateOf sp ∈ [SpotState.pressurising, .transfer, .paused .ullage, .paused .compressor, .recovery]) ∨
      (c = .pressuriseExpiry sp ∧ cause = .pressuriseTimeout ∧ (s.spots.get sp).driver.pressurise = some 0) ∨
      (c = .stallExpiry sp ∧ cause = .stall ∧ (s.spots.get sp).driver.stall = some 0)) →
    ∃ t, exec c s = .next t ∧ t.stateOf sp = .held ∧ (∀ l tag body, c = .hold l tag body → t.replyCode l = some .done) ∧
      t.recordOf sp = (s.recordOf sp).map (fun r => { r with holdCause := some cause }) ∧
      (t.spots.get sp).faultedValve = none ∧ (t.spots.get sp).meter = (s.spots.get sp).meter ∧
      (t.spots.get sp).driver.dwell = none ∧ (t.spots.get sp).driver.recoveryLimit = none ∧
      (s.stateOf sp = .transfer → (s.spotCfg.get sp).inService = true → (t.valve sp .lh).command = .toClose) ∧
      t.latches = s.latches ∧ s.gaveUp t sp ∧ s.onlyHoldings t sp

/-- Sections 1.3, 4.4 and 4.5: RESUME in HELD, its cause gone, sends the spot by its phase: to the queue for PUSH or for PULL, where the
arbiter acts at once and does nothing while no compressor is free, or back to the failed step of its line-up list, where the
engine runs on. While a VALVE hold persists, and in every other state, it is refused. -/
def Obligations.ResumeGoesByThePhase : Prop :=
  ∀ (s : State) (l : Link) (tag : Byte) (sp : SpotId), s.takes l = true → (s.spots.get sp).seat = l →
    (∀ d : Direction, s.stateOf sp = .held → s.holdPersists sp = false →
      s.inPhase sp (match d with | .push => .liquid | .pull => .recovery) = true →
      ∃ u : State, exec (.resume l tag (itemBody sp)) s = .next ((Reacted.settled (u, [.arbiter])).replied l tag 0x16 .done) ∧
        u = { s.taken l with spots := u.spots, queue := s.queue ++ [⟨sp, d, s.clockValue⟩] } ∧
        s.entered u sp .awaitCompressor id) ∧
    (∀ d : Direction, s.stateOf sp = .held → s.holdPersists sp = false → s.noneIdle →
      s.inPhase sp (match d with | .push => .liquid | .pull => .recovery) = true →
      ∃ t, exec (.resume l tag (itemBody sp)) s = .next t ∧ t.replyCode l = some .done ∧
        t.stateOf sp = .awaitCompressor ∧ t.queue = s.queue ++ [⟨sp, d, s.clockValue⟩] ∧
        t.recordOf sp = (s.recordOf sp).map (fun r => { r with holdCause := none }) ∧ s.onlyHoldings t sp) ∧
    (∀ r failed, s.stateOf sp = .held → s.holdPersists sp = false → s.inPhase sp .lineUp = true →
      (s.spots.get sp).engine = .stopped r failed →
      ∃ u : State,
        exec (.resume l tag (itemBody sp)) s = .next ((Reacted.settled (u, [.engineRun sp])).replied l tag 0x16 .done) ∧
        u = { s.taken l with spots := u.spots } ∧
        (s.modSpot sp fun p => { p with engine := .running { r with issued := failed, waiting := false } }).entered u sp
          .liningUp id) ∧
    (∀ r failed, s.stateOf sp = .held → s.holdPersists sp = false → s.inPhase sp .lineUp = true →
      (s.spots.get sp).engine = .stopped r failed → s.firstStepWaits sp (r.steps.drop failed) = true →
      ∃ t, exec (.resume l tag (itemBody sp)) s = .next t ∧ t.replyCode l = some .done ∧ t.stateOf sp = .liningUp ∧
        (t.spots.get sp).engine = .running { r with issued := failed + 1, waiting := true } ∧ s.onlySpot t sp) ∧
    (s.stateOf sp ≠ .held ∨ s.holdPersists sp = true → exec (.resume l tag (itemBody sp)) s =
      .next ((s.taken l).replied l tag 0x16 .refusedState))

/-- Sections 1.3, 6.2 and 8.3: PROVING_EXPIRY starts the line-up: the spot enters LINING_UP and the list, the order's override
or the configured one, runs from its first step, where that step waits for its proof (this where no held condition stands). A
held condition trips the spot at that entry, with cause SPOT_ESD if its SPOT_ESD reads active, and otherwise with cause
VESSEL_HIGH if its destination's high level does; that the list has not started then is the MODEL's choice (log 2). SPOT TRIP
RESET of a spot whose trip conditions are gone sends it to CLOSING, where it gives up what it holds (storage before compressor,
the MODEL's order, log 2) and its close-down list starts at the first step; in every other case it is refused. -/
def Obligations.ListsStartAtTheirFirstStep : Prop :=
  (∀ (s : State) (sp : SpotId), s.powered = true → (s.spots.get sp).proving = some 0 →
      let held : Prop := s.reading (.spot sp .spotEsd) = true ∨ s.destinationHigh sp = true
      (¬held → ∃ u : State, exec (.provingExpiry sp) s = .next (Reacted.settled (u, [.engineRun sp])) ∧
        u = { s with spots := u.spots } ∧
        (s.modSpot sp fun p => { p with engine := .running ⟨(s.lineUpOf sp).1, (s.lineUpOf sp).2, 0, false⟩ }).entered u sp
          .liningUp id) ∧
      (held →
        let cause := if s.reading (.spot sp .spotEsd) then TripCause.spotEsd else .vesselHigh
        (∃ u : State, exec (.provingExpiry sp) s = .next (Reacted.settled (u, [.spotTrip sp cause])) ∧
          u = { s with spots := u.spots } ∧ s.entered u sp .liningUp id) ∧
        (s.compOf sp = none → s.holdsStorage sp = false → s.inPending sp = false →
          ∃ t, exec (.provingExpiry sp) s = .next t ∧ t.stateOf sp = .tripped ∧ (t.spots.get sp).engine = .idle ∧
            t.recordOf sp = (s.recordOf sp).map (fun r => { r with
              holdCause := none, tripCause := some cause, endCause := some (r.endCause.getD .tripped)
              ticketPending := false }) ∧
            t.spotLatched sp .trip = true ∧ t.pendingOrder = s.pendingOrder ∧
            (∀ q, q ≠ sp → t.spots.get q = s.spots.get q)))) ∧
  (∀ (s : State) (sp : SpotId), s.powered = true → (s.spots.get sp).proving = some 0 →
      s.reading (.spot sp .spotEsd) = false → s.destinationHigh sp = false →
      s.firstStepWaits sp (s.lineUpOf sp).2 = true →
      ∃ t, exec (.provingExpiry sp) s = .next t ∧ t.stateOf sp = .liningUp ∧ (t.spots.get sp).proving = none ∧
        (t.spots.get sp).engine = .running ⟨(s.lineUpOf sp).1, (s.lineUpOf sp).2, 1, true⟩ ∧
        t.recordOf sp = (s.recordOf sp).map (fun r => { r with holdCause := none }) ∧ s.onlySpot t sp) ∧
  (∀ (s : State) (l : Link) (tag : Byte) (sp : SpotId), s.takes l = true → (s.spots.get sp).seat = l →
      (s.stateOf sp = .tripped → s.siteTrip.active = false → s.reading (.spot sp .spotEsd) = false →
        s.destinationHigh sp = false →
        ∃ u : State, exec (.spotTripReset l tag (itemBody sp)) s = .next ((Reacted.settled (u,
            [.releaseStorage sp, .releaseCompressor sp false, .engineRun sp])).replied l tag 0x18 .done) ∧
          u = { s.taken l with spots := u.spots, queue := s.queue.filter fun e => !decide (e.spot = sp) } ∧
          (s.modSpot sp fun p => { p with engine := .running ⟨.closeDown, s.closeDown.get sp, 0, false⟩ }).entered u sp
            .closing id) ∧
      (s.stateOf sp = .tripped → s.siteTrip.active = false → s.reading (.spot sp .spotEsd) = false →
        s.destinationHigh sp = false → s.noOtherWaits sp → s.firstStepWaits sp (s.closeDown.get sp) = true →
        ∃ t, exec (.spotTripReset l tag (itemBody sp)) s = .next t ∧ t.replyCode l = some .done ∧
          t.stateOf sp = .closing ∧ (t.spots.get sp).engine = .running ⟨.closeDown, s.closeDown.get sp, 1, true⟩ ∧
          t.recordOf sp = (s.recordOf sp).map (fun r => { r with holdCause := none }) ∧ t.latches = s.latches ∧
          s.gaveUp t sp ∧ s.onlyHoldings t sp) ∧
      (s.stateOf sp ≠ .tripped ∨ s.siteTrip.active = true ∨ s.reading (.spot sp .spotEsd) = true ∨
          s.destinationHigh sp = true →
        exec (.spotTripReset l tag (itemBody sp)) s = .next ((s.taken l).replied l tag 0x18 .refusedState)))

/-- Sections 6.1 and 6.4: VALVE COMMAND of LA, VA, VH or DR from the seat holder commands that valve: a changed command starts
a stroke with the valve's own timeout unless the valve already shows it. With a list in progress it is refused as busy and
latches SEQUENCE_CONFLICT; in a state that does not take it, out of service or during a site trip, it is refused. LH, a number
that is no valve, and an action other than OPEN and CLOSE are REFUSED_FIELD, before the list and the state are looked at. -/
def Obligations.ValveCommandStartsAStroke : Prop :=
  (∀ (s : State) (l : Link) (tag : Byte) (sp : SpotId) (body : List Byte), s.takes l = true → (s.spots.get sp).seat = l →
    body.length = 3 → field body 0 1 = sp.val + 1 → field body 1 1 ∉ [1, 2, 3, 4] ∨ 1 < field body 2 1 →
    exec (.valveCommand l tag body) s = .next ((s.taken l).replied l tag 0x19 .refusedField)) ∧
  ∀ (s : State) (l : Link) (tag : Byte) (sp : SpotId) (v : Valve) (a : Action), s.takes l = true →
    (s.spots.get sp).seat = l → v ≠ .lh →
    ((s.spots.get sp).engine.inProgress = false → s.stateOf sp ∈ [SpotState.vacant, .ordered, .ready, .complete] →
      (s.spotCfg.get sp).inService = true → s.siteTrip.active = false →
      ∃ t, exec (.valveCommand l tag (itemBody sp ++ be 1 (valveCode v) ++ be 1 a.code)) s = .next t ∧
        t.replyCode l = some .done ∧ (t.valve sp v).command = a ∧
        ((s.valve sp v).command ≠ a → (t.valve sp v).stroke =
          (if s.shows sp v a then none else some ⟨a, s.strokeTime sp v, .valveCommand⟩) ∧
          (t.valve sp v).disagreement = none ∧ (t.valve sp v).fault = false) ∧
        (∀ w, w ≠ v → t.valve sp w = s.valve sp w) ∧ t.stateOf sp = s.stateOf sp ∧ t.recordOf sp = s.recordOf sp ∧
        s.onlySpot t sp) ∧
    ((s.spots.get sp).engine.inProgress = true →
      exec (.valveCommand l tag (itemBody sp ++ be 1 (valveCode v) ++ be 1 a.code)) s =
        .next (((s.taken l).latchSpot sp .sequenceConflict).replied l tag 0x19 .refusedBusy)) ∧
    ((s.spots.get sp).engine.inProgress = false →
      s.stateOf sp ∉ [SpotState.vacant, .ordered, .ready, .complete] ∨ (s.spotCfg.get sp).inService = false ∨
        s.siteTrip.active = true →
      exec (.valveCommand l tag (itemBody sp ++ be 1 (valveCode v) ++ be 1 a.code)) s =
        .next ((s.taken l).replied l tag 0x19 .refusedState))

/-! ### Compressors, vessels, tickets, latches -/

/-- R82: COMPRESSOR RESET. A number other than 1 to 3 is REFUSED_FIELD; in FAULT with the FAULT function inactive the
compressor enters IDLE, its directions unchanged, and the arbiter acts; everything else is REFUSED_STATE. Either link, and any
seat. While the site trip is active the arbiter grants nothing, and a motor that still turns runs at once when granted. -/
def Obligations.CompressorResetEndsAFault : Prop :=
  ∀ (s : State) (l : Link) (tag : Byte) (n : Nat), s.takes l = true → n < 256 →
    (oneBased 3 n = none → exec (.compressorReset l tag (be 1 n)) s =
      .next ((s.taken l).replied l tag 0x1C .refusedField)) ∧
    ∀ c : CompId, oneBased 3 n = some c →
      ((s.comps.get c).state = .fault → s.reading (.comp c .fault) = false → exec (.compressorReset l tag (be 1 n)) s =
        .next ((Reacted.settled ((s.taken l).modComp c fun x => { x with state := .idle, assigned := none, timer := none },
          [.arbiter])).replied l tag 0x1C .done)) ∧
      ((s.comps.get c).state = .fault → s.reading (.comp c .fault) = false →
        s.siteTrip.active = true ∨ s.queue = [] → exec (.compressorReset l tag (be 1 n)) s =
        .next (((s.taken l).modComp c fun x => { x with state := .idle, assigned := none, timer := none }).replied l tag 0x1C
          .done)) ∧
      ((s.comps.get c).state ≠ .fault ∨ s.reading (.comp c .fault) = true → exec (.compressorReset l tag (be 1 n)) s =
        .next ((s.taken l).replied l tag 0x1C .refusedState)) ∧
      ∀ cfg proven sp d (x : Comp), x.position = d → (Comp.grant cfg true proven sp d x).state = d.runState

/-- Section 4.3: COMPRESSOR SERVICE from an authenticated link. OUT takes an IDLE or faulted compressor out of service, is
DONE with no change out of service, and is otherwise refused; IN puts one out of service to IDLE unless its FAULT is active,
where the arbiter serves the wait queue with it, and in every other state it is DONE with no change. The service state is
stored. A service value other than 0 (OUT) and 1 (IN) is REFUSED_FIELD. From a link not authenticated it is refused. -/
def Obligations.CompressorServiceMovesIdleAndFaulted : Prop :=
  ∀ (s : State) (l : Link) (tag : Byte) (c : CompId) (inward : Bool), s.takes l = true →
    ((s.link l).authenticated = false →
      exec (.compressorService l tag (itemBody c ++ be 1 (flagCode inward))) s =
        .next ((s.taken l).replied l tag 0x34 .refusedAuth)) ∧
    ((s.link l).authenticated = true →
      (∀ code : Nat, 1 < code → code < 256 → exec (.compressorService l tag (itemBody c ++ be 1 code)) s =
        .next ((s.taken l).replied l tag 0x34 .refusedField)) ∧
      ((s.comps.get c).state = .idle ∨ (s.comps.get c).state = .fault →
        exec (.compressorService l tag (itemBody c ++ be 1 0)) s =
          .next ((({ s.taken l with compService := s.compService.set c false } : State).modComp c fun x =>
            { x with state := .outOfService, assigned := none, timer := none }).replied l tag 0x34 .done)) ∧
      ((s.comps.get c).state ∉ [CompState.idle, .fault, .outOfService] →
        exec (.compressorService l tag (itemBody c ++ be 1 0)) s = .next ((s.taken l).replied l tag 0x34 .refusedState)) ∧
      ((s.comps.get c).state ≠ .outOfService →
        exec (.compressorService l tag (itemBody c ++ be 1 1)) s = .next ((s.taken l).replied l tag 0x34 .done)) ∧
      ((s.comps.get c).state = .outOfService →
        exec (.compressorService l tag (itemBody c ++ be 1 0)) s = .next ((s.taken l).replied l tag 0x34 .done)) ∧
      ((s.comps.get c).state = .outOfService → s.reading (.comp c .fault) = true →
        exec (.compressorService l tag (itemBody c ++ be 1 1)) s = .next ((s.taken l).replied l tag 0x34 .refusedState)) ∧
      ((s.comps.get c).state = .outOfService → s.reading (.comp c .fault) = false →
        let u : State := ({ s.taken l with compService := s.compService.set c true } : State).modComp c fun x =>
          { x with state := .idle, assigned := none, timer := none }
        exec (.compressorService l tag (itemBody c ++ be 1 1)) s =
          .next ((Reacted.settled (u, [.arbiter])).replied l tag 0x34 .done) ∧
        (s.queue = [] ∨ s.siteTrip.active = true →
          exec (.compressorService l tag (itemBody c ++ be 1 1)) s = .next (u.replied l tag 0x34 .done))))

/-- Section 3.1: TANK ULLAGE from the supervisory link replaces the ullage of a vessel, clamped to 5,000,000 kg; for a vessel
in service it starts the age and clears STALE, and the grant pass then runs, which with no request pending does nothing; for
one out of service it does nothing more. From the panel link it is refused. ULLAGE_AGE_EXPIRY of an age that has reached its limit turns the vessel STALE and
latches VESSEL_STALE with its mark. -/
def Obligations.UllageReportsAndTheirAge : Prop :=
  ∀ (s : State) (tag : Byte) (v : VesselId) (kg : Nat), kg < 4294967296 →
    let reported : State := (s.taken .supervisory).modVessel v fun x =>
      { x with ullage := min kg 5000000, age := some 0, ageLimit := (s.vesselCfg.get v).ageLimit, stale := false }
    (s.takes .panel = true → exec (.tankUllage .panel tag (itemBody v ++ be 4 kg)) s =
      .next ((s.taken .panel).replied .panel tag 0x1D .refusedSeat)) ∧
    (s.takes .supervisory = true → (s.vesselCfg.get v).inService = true →
      exec (.tankUllage .supervisory tag (itemBody v ++ be 4 kg)) s =
        .next ((Reacted.settled (reported, [.grantPass v])).replied
          .supervisory tag 0x1D (if 5000000 < kg then .doneClamped else .done))) ∧
    (s.takes .supervisory = true → (s.vesselCfg.get v).inService = true → (s.vessels.get v).requests = [] →
      exec (.tankUllage .supervisory tag (itemBody v ++ be 4 kg)) s =
        .next (reported.replied .supervisory tag 0x1D (if 5000000 < kg then .doneClamped else .done))) ∧
    (s.takes .supervisory = true → (s.vesselCfg.get v).inService = false →
      exec (.tankUllage .supervisory tag (itemBody v ++ be 4 kg)) s =
        .next (((s.taken .supervisory).modVessel v fun x => { x with ullage := min kg 5000000 }).replied
            .supervisory tag 0x1D (if 5000000 < kg then .doneClamped else .done))) ∧
    (∀ ms, s.powered = true → (s.vessels.get v).age = some ms → (s.vessels.get v).stale = false →
      seconds (s.vessels.get v).ageLimit ≤ ms →
      ∃ t, exec (.ullageAgeExpiry v) s = .next t ∧ t = { s with vessels := t.vessels, latches := t.latches } ∧
        (t.vessels.get v).stale = true ∧ (t.vessels.get v).free = 0 ∧
        (t.vessels.get v).committed = (s.vessels.get v).committed ∧
        (t.vessels.get v).reservations = (s.vessels.get v).reservations ∧
        (∀ w, w ≠ v → t.vessels.get w = s.vessels.get w) ∧
        t.latches = { s.latches with vesselStale := s.latches.vesselStale.set v true })

/-- R168: RELEASE TICKET: from the panel link REFUSED_SEAT; then the number's range, an empty queue and the number of the
ticket at the head are checked in that order; when all pass the ticket at the head is removed, the pending order is served,
and the reply DONE follows. Nothing else is asked: neither a seat nor that no site trip is active. -/
def Obligations.ReleaseTicketRemovesTheHead : Prop :=
  ∀ (s : State) (tag : Byte) (n : Nat), n < 4294967296 →
    (s.takes .panel = true → exec (.releaseTicket .panel tag (be 4 n)) s =
      .next ((s.taken .panel).replied .panel tag 0x1E .refusedSeat)) ∧
    (s.takes .supervisory = true →
      (n < 1 ∨ 999999 < n → exec (.releaseTicket .supervisory tag (be 4 n)) s =
        .next ((s.taken .supervisory).replied .supervisory tag 0x1E .refusedField)) ∧
      (1 ≤ n → n ≤ 999999 → s.tickets = [] → exec (.releaseTicket .supervisory tag (be 4 n)) s =
        .next ((s.taken .supervisory).replied .supervisory tag 0x1E .refusedEmpty)) ∧
      ∀ x rest, s.tickets = x :: rest → 1 ≤ n → n ≤ 999999 →
        (x.number ≠ n → exec (.releaseTicket .supervisory tag (be 4 n)) s =
          .next ((s.taken .supervisory).replied .supervisory tag 0x1E .refusedMismatch)) ∧
        (x.number = n → exec (.releaseTicket .supervisory tag (be 4 n)) s =
          .next ((Reacted.settled (({ s.taken .supervisory with tickets := rest } : State), [.serveTickets])).replied
            .supervisory tag 0x1E .done)) ∧
        (x.number = n → s.pendingOrder = [] → exec (.releaseTicket .supervisory tag (be 4 n)) s =
          .next (({ s.taken .supervisory with tickets := rest } : State).replied .supervisory tag 0x1E .done)))

/-- Section 10.4: CLEAR LATCHES whose words name only positions of the table clears exactly the named unit kinds with their
item marks, each mark of an unnamed kind staying, and the named spot kinds for the named spots; SET MASK with such words
replaces both masks whole, changes no latch, and the attention line then stands exactly while an unmasked latch is set. Any
other position is refused. R182: every latch and every mark that is set before a command is set after it, whatever the command,
but for CLEAR LATCHES and a restart: POWER_UP, SUPPLY_LOSS, and REPLY_SENT of the reply to a RESTART. -/
def Obligations.ClearLatchesAndSetMaskActOnWhatIsNamed : Prop :=
  (∀ (s : State) (l : Link) (tag : Byte) (unit spot : Word) (spots : Byte), s.takes l = true →
      (unit &&& 0xF800 = 0 → spot &&& 0xE000 = 0 → ∃ t,
        exec (.clearLatches l tag (be 2 unit.toNat ++ be 2 spot.toNat ++ be 1 spots.toNat)) s = .next t ∧
        t.replyCode l = some .done ∧ t = { s with latches := t.latches, links := t.links } ∧
        t.latches.unitWord = s.latches.unitWord &&& ~~~unit ∧
        (∀ sp : SpotId, t.latches.spot.get sp =
          if spots.getLsbD sp.val then s.latches.spot.get sp &&& ~~~spot else s.latches.spot.get sp) ∧
        (∀ v, t.latches.vesselStale.get v = (s.latches.vesselStale.get v && !unit.getLsbD 1)) ∧
        (∀ v, t.latches.vesselHigh.get v = (s.latches.vesselHigh.get v && !unit.getLsbD 2)) ∧
        (∀ c, t.latches.compressorFault.get c = (s.latches.compressorFault.get c && !unit.getLsbD 3)) ∧
        (∀ m, t.latches.linkOverrun.get m = (s.latches.linkOverrun.get m && !unit.getLsbD 7)) ∧
        (unit.getLsbD 6 = true → t.latches.inputEdge = []) ∧
        (unit.getLsbD 6 = false → t.latches.inputEdge = s.latches.inputEdge)) ∧
      (¬(unit &&& 0xF800 = 0 ∧ spot &&& 0xE000 = 0) →
        exec (.clearLatches l tag (be 2 unit.toNat ++ be 2 spot.toNat ++ be 1 spots.toNat)) s =
          .next ((s.taken l).replied l tag 0x1F .refusedField))) ∧
  (∀ (s : State) (l : Link) (tag : Byte) (unit spot : Word), s.takes l = true →
      (unit &&& 0xF800 = 0 → spot &&& 0xE000 = 0 → ∃ t,
        exec (.setMask l tag (be 2 unit.toNat ++ be 2 spot.toNat)) s = .next t ∧ t.replyCode l = some .done ∧
        t = { s with unitMask := unit, spotMask := spot, links := t.links } ∧
        (t.attention = true ↔ s.latches.unitWord &&& ~~~unit ≠ 0 ∨ ∃ sp, s.latches.spot.get sp &&& ~~~spot ≠ 0)) ∧
      (¬(unit &&& 0xF800 = 0 ∧ spot &&& 0xE000 = 0) → exec (.setMask l tag (be 2 unit.toNat ++ be 2 spot.toNat)) s =
        .next ((s.taken l).replied l tag 0x20 .refusedField))) ∧
  ∀ (s t : State) (c : Instr), exec c s = .next t → (∀ l tag body, c ≠ .clearLatches l tag body) → c ≠ .powerUp →
    c ≠ .supplyLoss → (∀ l reply, c = .replySent l → (s.link l).exchange ≠ .busy reply .restart) →
    s.latches.keptIn t.latches

/-! ### Trips -/

/-- Section 8.2: SITE TRIP, from either link, makes the site trip active with that link's cause and latches SITE_TRIP. During
one that is active it only adds the cause; otherwise every spot it reaches trips with cause SITE, every valve of a spot in
service is commanded CLOSE, every active compressor stops, and the wait queue is empty, whatever the cause that made it active.
The pending requests, the pending order and the arbiter are then looked at, which with no request pending and an empty pending
order changes nothing. SITE TRIP RESET from an authenticated link, with every ESD inactive and the gas count below the vote,
ends it with its whole cause set, and the arbiter acts, which with an empty wait queue is all; otherwise it is refused. (That
every spot trips before what the trips give up is looked at is the MODEL's choice, log 2.) -/
def Obligations.SiteTripStopsTheRackUntilReset : Prop :=
  let dark (s : State) (c : SiteCause) (t : State) : Prop :=
    t.siteTrip = { s.siteTrip.add c with active := true } ∧ t.latches.siteTrip = true ∧
    t.siteClear = false ∧ t.queue = [] ∧ t.tickets = s.tickets ∧
    (∀ sp, s.stateOf sp ∉ [SpotState.vacant, .complete, .tripped] → t.stateOf sp = .tripped ∧
      (t.recordOf sp).map (fun r => r.tripCause) = (s.recordOf sp).map (fun _ => some .site)) ∧
    (∀ sp, s.stateOf sp ∈ [SpotState.vacant, .complete, .tripped] →
      t.stateOf sp = s.stateOf sp ∧ t.recordOf sp = s.recordOf sp) ∧
    (∀ sp, (s.spotCfg.get sp).inService = true → t.allCommandedClose sp) ∧
    ∀ k, (s.comps.get k).state.active = true → (t.comps.get k).state = .stopping false
  (∀ (s : State) (c : SiteCause), s.siteTrip.active = false →
    dark s c (s.react (.siteCause c)).1 ∧
    (s.react (.siteCause c)).2 = [.grantPass 0, .grantPass 1, .grantPass 2, .grantPass 3, .serveTickets, .arbiter]) ∧
  (∀ (s : State) (l : Link) (tag : Byte), s.takes l = true →
      exec (.siteTrip l tag []) s =
        .next ((Reacted.settled (s.taken l, [.siteCause (.request l)])).replied l tag 0x21 .done) ∧
      (s.siteTrip.active = true → exec (.siteTrip l tag []) s =
        .next ((({ s.taken l with siteTrip := { s.siteTrip.add (.request l) with active := true } } : State).latchSiteTrip).replied
          l tag 0x21 .done)) ∧
      (s.siteTrip.active = false → (∀ v, (s.vessels.get v).requests = []) → s.pendingOrder = [] →
        ∃ t, exec (.siteTrip l tag []) s = .next t ∧ t.replyCode l = some .done ∧ dark s (.request l) t)) ∧
  (∀ (s : State) (l : Link) (tag : Byte), s.takes l = true →
      ((s.link l).authenticated = false → exec (.siteTripReset l tag []) s =
        .next ((s.taken l).replied l tag 0x35 .refusedAuth)) ∧
      ((s.link l).authenticated = true → s.siteTrip.active = true → (∀ i, s.reading (.esd i) = false) →
        s.gasCount < s.unit.gasVote → exec (.siteTripReset l tag []) s =
          .next ((Reacted.settled (({ s.taken l with siteTrip := SiteTripState.blank } : State), [.arbiter])).replied
            l tag 0x35 .done)) ∧
      ((s.link l).authenticated = true → s.siteTrip.active = true → (∀ i, s.reading (.esd i) = false) →
        s.gasCount < s.unit.gasVote → s.queue = [] → exec (.siteTripReset l tag []) s =
          .next (({ s.taken l with siteTrip := SiteTripState.blank } : State).replied l tag 0x35 .done)) ∧
      ((s.link l).authenticated = true →
        s.siteTrip.active = false ∨ (∃ i, s.reading (.esd i) = true) ∨ s.unit.gasVote ≤ s.gasCount →
        exec (.siteTripReset l tag []) s = .next ((s.taken l).replied l tag 0x35 .refusedState)))

/-- Sections 3.2, 4.5, 6.1, 8.3, 8.4 and 9.6: a CLOSE stroke that times out, or a disagreement under a CLOSE command that expires, at a spot in a
trippable state latches VALVE_FAULT and trips the spot with cause VALVE: the outputs de-energised, the list abandoned, a
snapshot taken if the slot is empty, the end cause TRIPPED unless one is present, and what the spot held given up. A trip of a
spot in a trippable state, of whatever cause, does that part of it; what the spot gave up is then offered to the others: the
arbiter acts if it held a compressor, the grant pass runs if it held storage, and the pending order is served if it stood in
it (in this order, the MODEL's choice, log 2; a gram remainder alone is nothing held, log 33). -/
def Obligations.FailedCloseTripsTheSpot : Prop :=
  (∀ (s : State) (sp : SpotId) (cause : TripCause), (s.stateOf sp).trippable = true →
    let t := s.react (.spotTrip sp cause)
    t.1.stateOf sp = .tripped ∧ (t.1.spots.get sp).engine = .idle ∧
    ((s.spotCfg.get sp).inService = true → t.1.allCommandedClose sp) ∧
    t.1.recordOf sp = (s.recordOf sp).map (fun r => { r with
      holdCause := none, tripCause := some cause, endCause := some (r.endCause.getD .tripped), ticketPending := false }) ∧
    s.gaveUp t.1 sp ∧ (∀ q, q ≠ sp → t.1.spots.get q = s.spots.get q) ∧
    t.1.pendingOrder = (s.pendingOrder.filter fun e => !decide (e.spot = sp)) ∧
    t.2 = (if s.compOf sp ≠ none then [.arbiter] else []) ++
      (match s.vesselOf sp with
        | some v => if (s.vessels.get v).hasAny sp || (s.vessels.get v).hasRequest sp then [.grantPass v] else []
        | none => []) ++
      (if (s.pendingOrder.any fun e => decide (e.spot = sp)) then [.serveTickets] else [])) ∧
  (∀ (s : State) (sp : SpotId) (v : Valve), s.powered = true → (s.stateOf sp).trippable = true →
    let failing (f : ValveUnit → ValveUnit) : State :=
      (s.modSpot sp fun p => { p with valves := p.valves.modify (valveIndex v) f }).latchSpot sp .valveFault
    (∀ k, (s.valve sp v).stroke = some k → k.target = .toClose → k.remaining = 0 → exec (.strokeTimeout sp v) s =
      .next (Reacted.settled (failing fun u => { u with stroke := none, fault := true }, [.spotTrip sp .valve]))) ∧
    ((s.valve sp v).disagreement = some 0 → (s.valve sp v).command = .toClose → exec (.disagreementExpiry sp v) s =
      .next (Reacted.settled (failing fun u => { u with disagreement := none, fault := true }, [.spotTrip sp .valve])))) ∧
  ∀ (s : State) (c : Instr) (sp : SpotId) (v : Valve), s.powered = true → (s.stateOf sp).trippable = true →
    s.noOtherWaits sp → s.pendingOrder = [] →
    ((∃ k, c = .strokeTimeout sp v ∧ (s.valve sp v).stroke = some k ∧ k.target = .toClose ∧ k.remaining = 0) ∨
      (c = .disagreementExpiry sp v ∧ (s.valve sp v).disagreement = some 0 ∧ (s.valve sp v).command = .toClose)) →
    ∃ t, exec c s = .next t ∧ t.stateOf sp = .tripped ∧ (t.spots.get sp).engine = .idle ∧
      ((s.spotCfg.get sp).inService = true → t.allCommandedClose sp) ∧
      (t.recordOf sp).map (fun r => r.tripCause) = (s.recordOf sp).map (fun _ => some .valve) ∧
      (t.recordOf sp).map (fun r => r.endCause) = (s.recordOf sp).map (fun r => some (r.endCause.getD .tripped)) ∧
      (∀ x, (s.spots.get sp).snapshot = none → (t.spots.get sp).snapshot = some x →
        x.cause = .valve ∧ x.state = s.stateOf sp ∧ x.time = s.clockValue ∧ x.compressor = s.compOf sp ∧ x.laterTrips = 0) ∧
      (t.spots.get sp).snapshot ≠ none ∧ t.spotLatched sp .valveFault = true ∧ t.spotLatched sp .trip = true ∧
      s.gaveUp t sp ∧ s.onlyHoldings t sp

/-! ### Settings, bypasses, clock, lock, authentication -/

/-- Sections 3.7, 6.1, 6.2, 7.2, 8.2, 10.1, 10.3, 10.6, 11.1 and 11.2: CONFIGURE from an authenticated link stores a record in
range for its target, each under the state its target asks for, and is REFUSED_STATE in the others, with what follows a
changed gas vote, vessel service, spot service or line function; LIST LOAD, and CONFIGURE of a list, store a list of a spot in
VACANT. (A record or list out of range stands in ShapeSeatAndClassAreChecked.) Under an effective lock a changed custody
parameter or product entry is REFUSED_LOCKED, an unchanged one is stored, and so is one that configures an entry not
configured (one configured before the lock and cleared since counted among them, and a first record with the flag clear not,
as log 21, the MODEL's reading, has it). That the stored attempt limit, changed or not, is held against the failure count at
every accepted unit record is the MODEL's reading (log 20), and so is that a spot's ladder step rises to a stored floor step
(log 22). That a line's record repeated whole is DONE in every state, as one with a changed edge choice alone, is the MODEL's
choice (log 40). -/
def Obligations.ConfigureStoresTheRecord : Prop :=
  ∀ (s : State) (l : Link) (tag : Byte), s.takes l = true → (s.link l).authenticated = true →
    (∀ u : UnitCfg, u.inRange = true → u.supervisorCode < 4294967296 →
      ∃ t, exec (.configure l tag (be 1 1 ++ be 1 0 ++ unitRecord u)) s = .next t ∧ t.replyCode l = some .done ∧ t.unit = u ∧
        (u.attemptLimit ≠ 0 ∧ u.attemptLimit ≤ s.failures →
          t.failures = u.attemptLimit ∧ t.lockout = true ∧ t.latches.authLockout = true) ∧
        (u.attemptLimit = 0 ∨ s.failures < u.attemptLimit →
          t.failures = s.failures ∧ t.lockout = s.lockout ∧ t.latches.authLockout = s.latches.authLockout) ∧
        (u.gasVote ≠ s.unit.gasVote ∧ u.gasVote ≤ s.gasCount →
          t.siteTrip.active = true ∧ t.siteTrip.gasVote = true ∧ t.latches.siteTrip = true) ∧
        (u.gasVote = s.unit.gasVote ∨ s.gasCount < u.gasVote →
          t = { s with unit := u, failures := t.failures, lockout := t.lockout, links := t.links,
                       latches := { s.latches with authLockout := t.latches.authLockout } })) ∧
    (∀ p c, c.inRange = true → s.lock ≠ .effective ∨ c = s.products.get p ∨
        (s.products.get p).configured = false ∧ c.configured = true →
      s.productInUse p = false →
      exec (.configure l tag (be 1 3 ++ itemBody p ++ productBytes c)) s =
        .next (({ s.taken l with products := s.products.set p c } : State).replied l tag 0x30 .done)) ∧
    (∀ p c, c.inRange = true → s.lock ≠ .effective ∨ c = s.products.get p ∨
        (s.products.get p).configured = false ∧ c.configured = true →
      s.productInUse p = true →
      exec (.configure l tag (be 1 3 ++ itemBody p ++ productBytes c)) s =
        .next ((s.taken l).replied l tag 0x30 .refusedState)) ∧
    (∀ p c, c.inRange = true → s.lock = .effective → (s.products.get p).configured = true ∨ c.configured = false →
      c ≠ s.products.get p →
      exec (.configure l tag (be 1 3 ++ itemBody p ++ productBytes c)) s =
        .next ((s.taken l).replied l tag 0x30 .refusedLocked)) ∧
    (∀ v c, c.inRange = true → (s.vesselCfg.get v).inService = false ∨ s.vesselInUse v = false →
      (c.inService = false → exec (.configure l tag (be 1 4 ++ itemBody v ++ vesselBytes c)) s =
        .next ((({ s.taken l with vesselCfg := s.vesselCfg.set v c } : State).modVessel v fun x =>
          { x with stale := true, age := none }).replied l tag 0x30 .done)) ∧
      (c.inService = true → exec (.configure l tag (be 1 4 ++ itemBody v ++ vesselBytes c)) s =
        .next ((Reacted.settled (({ s.taken l with vesselCfg := s.vesselCfg.set v c } : State),
          if (s.vesselCfg.get v).inService then [] else [.grantPass v])).replied l tag 0x30 .done)) ∧
      (c.inService = true → (s.vessels.get v).requests = [] →
        exec (.configure l tag (be 1 4 ++ itemBody v ++ vesselBytes c)) s =
        .next (({ s.taken l with vesselCfg := s.vesselCfg.set v c } : State).replied l tag 0x30 .done))) ∧
    (∀ v c, c.inRange = true → (s.vesselCfg.get v).inService = true → s.vesselInUse v = true →
      exec (.configure l tag (be 1 4 ++ itemBody v ++ vesselBytes c)) s =
        .next ((s.taken l).replied l tag 0x30 .refusedState)) ∧
    (∀ k c, c.inRange = true → (s.comps.get k).state ∈ [CompState.outOfService, .idle, .fault] →
      exec (.configure l tag (be 1 5 ++ itemBody k ++ compBytes c)) s =
        .next (({ s.taken l with compCfg := s.compCfg.set k c } : State).replied l tag 0x30 .done)) ∧
    (∀ k c, c.inRange = true → (s.comps.get k).state ∉ [CompState.outOfService, .idle, .fault] →
      exec (.configure l tag (be 1 5 ++ itemBody k ++ compBytes c)) s =
        .next ((s.taken l).replied l tag 0x30 .refusedState)) ∧
    (∀ sp c, c.inRange = true → c.inService = false →
      s.lock ≠ .effective ∨ c.sameCustody (s.spotCfg.get sp) = true → s.stateOf sp = .vacant →
      exec (.configure l tag (be 1 2 ++ itemBody sp ++ spotBytes c)) s =
        .next (((({ s.taken l with spotCfg := s.spotCfg.set sp c } : State).modSpot sp fun p =>
          { p with driver := { p.driver with step := max p.driver.step c.floorStep } }).valvesOutOfService sp).replied
            l tag 0x30 .done)) ∧
    (∀ sp c, c.inRange = true → c.inService = true → (∀ f ∈ spotFunctions, s.mapped (.spot sp f) = true) →
      (s.spotCfg.get sp).inService = true → s.lock ≠ .effective ∨ c.sameCustody (s.spotCfg.get sp) = true →
      s.stateOf sp = .vacant →
      exec (.configure l tag (be 1 2 ++ itemBody sp ++ spotBytes c)) s =
        .next ((({ s.taken l with spotCfg := s.spotCfg.set sp c } : State).modSpot sp fun p =>
          { p with driver := { p.driver with step := max p.driver.step c.floorStep } }).replied l tag 0x30 .done)) ∧
    (∀ sp c, c.inRange = true → c.inService = true → (∀ f ∈ spotFunctions, s.mapped (.spot sp f) = true) →
      (s.spotCfg.get sp).inService = false → s.lock ≠ .effective ∨ c.sameCustody (s.spotCfg.get sp) = true →
      s.stateOf sp = .vacant →
      ∃ t, exec (.configure l tag (be 1 2 ++ itemBody sp ++ spotBytes c)) s = .next t ∧ t.replyCode l = some .done ∧
        t = { s with spots := t.spots, spotCfg := s.spotCfg.set sp c, links := t.links } ∧
        (∀ q, q ≠ sp → t.spots.get q = s.spots.get q) ∧ t.stateOf sp = .vacant ∧ t.recordOf sp = s.recordOf sp ∧
        ∀ v, (s.valve sp v).command = .toClose → (s.valve sp v).stroke = none →
          t.valve sp v = if s.shows sp v .toClose then s.valve sp v
            else ⟨.toClose, some ⟨.toClose, seconds (c.strokeTimeouts.get (valveIndex v)), .deEnergise⟩, none, false⟩) ∧
    (∀ sp c, c.inRange = true → c.inService = true → (∃ f ∈ spotFunctions, s.mapped (.spot sp f) = false) →
      exec (.configure l tag (be 1 2 ++ itemBody sp ++ spotBytes c)) s =
        .next ((s.taken l).replied l tag 0x30 .refusedField)) ∧
    (∀ sp c, c.inRange = true → c.inService = false ∨ (∀ f ∈ spotFunctions, s.mapped (.spot sp f) = true) →
      (s.lock = .effective → c.sameCustody (s.spotCfg.get sp) = false →
        exec (.configure l tag (be 1 2 ++ itemBody sp ++ spotBytes c)) s =
          .next ((s.taken l).replied l tag 0x30 .refusedLocked)) ∧
      (s.lock ≠ .effective ∨ c.sameCustody (s.spotCfg.get sp) = true → s.stateOf sp ≠ .vacant →
        exec (.configure l tag (be 1 2 ++ itemBody sp ++ spotBytes c)) s =
          .next ((s.taken l).replied l tag 0x30 .refusedState))) ∧
    (∀ (ch : ChannelId) c, c.inRange ch = true →
      exec (.configure l tag (be 1 9 ++ itemBody ch ++ scaleBytes c)) s =
        .next (({ s.taken l with scaling := s.scaling.set ch c } : State).replied l tag 0x30 .done)) ∧
    (∀ i c, c.filterTime ∈ filterTimes →
      let old := (s.lineCfg.get i).function
      let u : State := { s.taken l with lineCfg := s.lineCfg.set i c }
      ((s.lineCfg.get i).edgeOnly c = true →
        exec (.configure l tag (be 1 6 ++ itemBody i ++ lineBytes c)) s = .next (u.replied l tag 0x30 .done)) ∧
      ((s.lineCfg.get i).edgeOnly c = false →
        (∃ f j, c.function = some f ∧ j ≠ i ∧ (s.lineCfg.get j).function = some f) ∨
          (∃ sp f, old = some (.spot sp f) ∧ (s.spotCfg.get sp).inService = true ∧ c.function ≠ old) →
        exec (.configure l tag (be 1 6 ++ itemBody i ++ lineBytes c)) s =
          .next ((s.taken l).replied l tag 0x30 .refusedField)) ∧
      ((s.lineCfg.get i).edgeOnly c = false →
        ¬(∃ f j, c.function = some f ∧ j ≠ i ∧ (s.lineCfg.get j).function = some f) →
        ¬(∃ sp f, old = some (.spot sp f) ∧ (s.spotCfg.get sp).inService = true ∧ c.function ≠ old) →
        ((∃ f, (old = some f ∨ c.function = some f) ∧ s.touchable f = false) →
          exec (.configure l tag (be 1 6 ++ itemBody i ++ lineBytes c)) s =
            .next ((s.taken l).replied l tag 0x30 .refusedState)) ∧
        ((∀ f, old = some f ∨ c.function = some f → s.touchable f = true) →
          ∃ changes, exec (.configure l tag (be 1 6 ++ itemBody i ++ lineBytes c)) s =
              .next ((Reacted.settled (u, changes)).replied l tag 0x30 .done) ∧
            ∀ r, r ∈ changes ↔ ∃ f, (old = some f ∨ c.function = some f) ∧ u.reading f ≠ s.reading f ∧
              r = .functionChanged f (u.reading f)))) ∧
    (∀ m c, c.inRange = true →
      exec (.configure l tag (be 1 8 ++ itemBody (linkIndex m) ++ linkBytes c)) s =
        .next (({ s.taken l with linkCfg := s.linkCfg.set (linkIndex m) c } : State).reply l tag 0x30
          ⟨.done, .none, .applyLink m c⟩)) ∧
    (∀ sp steps, listInRange steps = true → s.stateOf sp = .vacant →
      exec (.listLoad l tag (itemBody sp ++ be 1 1 ++ listBytes steps)) s =
        .next (({ s.taken l with lineUp := s.lineUp.set sp steps } : State).replied l tag 0x31 .done) ∧
      exec (.listLoad l tag (itemBody sp ++ be 1 2 ++ listBytes steps)) s =
        .next (({ s.taken l with closeDown := s.closeDown.set sp steps } : State).replied l tag 0x31 .done) ∧
      exec (.configure l tag (be 1 7 ++ be 1 (sp.val + 1) ++ listBytes steps)) s =
        .next (({ s.taken l with lineUp := s.lineUp.set sp steps } : State).replied l tag 0x30 .done) ∧
      exec (.configure l tag (be 1 7 ++ be 1 (sp.val + 9) ++ listBytes steps)) s =
        .next (({ s.taken l with closeDown := s.closeDown.set sp steps } : State).replied l tag 0x30 .done)) ∧
    (∀ sp steps, listInRange steps = true → s.stateOf sp ≠ .vacant →
      exec (.listLoad l tag (itemBody sp ++ be 1 1 ++ listBytes steps)) s =
        .next ((s.taken l).replied l tag 0x31 .refusedState) ∧
      exec (.listLoad l tag (itemBody sp ++ be 1 2 ++ listBytes steps)) s =
        .next ((s.taken l).replied l tag 0x31 .refusedState) ∧
      exec (.configure l tag (be 1 7 ++ be 1 (sp.val + 1) ++ listBytes steps)) s =
        .next ((s.taken l).replied l tag 0x30 .refusedState) ∧
      exec (.configure l tag (be 1 7 ++ be 1 (sp.val + 9) ++ listBytes steps)) s =
        .next ((s.taken l).replied l tag 0x30 .refusedState))

/-- Sections 7.2 and 7.6: BYPASS SET and BYPASS END from an authenticated link, and BYPASS_EXPIRY, by what they leave in the bypass
table: a new record at its end while there is room, a renewed one in its place, or the record gone. A bypassed permissive
reads healthy and a bypassed VAPOUR_IN_LINE inactive, whatever their lines say, and a function not bypassed reads from its
line; where the new or the removed record changes the reading, the change reaches its user at that event. A record of the
supervisory link is not ended from the panel. A record with time left does not expire. A spot outside 1 to 8, a function that
cannot be bypassed and a time outside 1 to 480 minutes are REFUSED_FIELD. -/
def Obligations.BypassesEnterAndLeaveTheTable : Prop :=
  (∀ (s : State) (l : Link) (tag : Byte) (body : List Byte), s.takes l = true → (s.link l).authenticated = true →
    let misnamed : Prop := field body 0 1 < 1 ∨ 8 < field body 0 1 ∨ field body 1 1 < 1 ∨ 5 < field body 1 1
    (body.length = 4 → misnamed ∨ field body 2 2 < 1 ∨ 480 < field body 2 2 →
      exec (.bypassSet l tag body) s = .next ((s.taken l).replied l tag 0x32 .refusedField)) ∧
    (body.length = 2 → misnamed →
      exec (.bypassEnd l tag body) s = .next ((s.taken l).replied l tag 0x33 .refusedField))) ∧
  (∀ (s : State) (sp : SpotId) (f : BypassFn),
    (s.bypassOf sp f ≠ none → s.reading (.spot sp (bypassSpotFn f)) = decide (f ≠ .vapourInLine)) ∧
    (s.bypassOf sp f = none → s.reading (.spot sp (bypassSpotFn f)) = s.lineValue (.spot sp (bypassSpotFn f)))) ∧
  ∀ (s : State) (l : Link) (tag : Byte) (sp : SpotId) (f : BypassFn) (code minutes : Nat), bypassFnOf code = some f →
    let g : FieldFn := .spot sp (bypassSpotFn f)
    let withRecord : State := { s.taken l with bypasses := s.bypasses ++ [⟨sp, f, 60000 * minutes, l⟩] }
    let without (u : State) : State :=
      { u with bypasses := s.bypasses.filter fun b => !(decide (b.spot = sp) && decide (b.function = f)) }
    let carried (u : State) : List Reaction := if u.reading g = s.reading g then [] else [.functionChanged g (u.reading g)]
    let done (u : State) : State := Reacted.settled (u, carried u)
    (s.takes l = true → (s.link l).authenticated = true → 1 ≤ minutes → minutes ≤ 480 →
      ((s.spotCfg.get sp).inService = true → s.bypassOf sp f = none → s.bypasses.length < 2 →
        exec (.bypassSet l tag (itemBody sp ++ be 1 code ++ be 2 minutes)) s =
          .next ((done withRecord).replied l tag 0x32 .done) ∧
        (done withRecord).bypasses = s.bypasses ++ [⟨sp, f, 60000 * minutes, l⟩]) ∧
      ((s.spotCfg.get sp).inService = true → s.bypassOf sp f = none → 2 ≤ s.bypasses.length →
        exec (.bypassSet l tag (itemBody sp ++ be 1 code ++ be 2 minutes)) s =
          .next ((s.taken l).replied l tag 0x32 .refusedFull)) ∧
      ((s.spotCfg.get sp).inService = true → s.bypassOf sp f ≠ none →
        exec (.bypassSet l tag (itemBody sp ++ be 1 code ++ be 2 minutes)) s =
          .next (({ s.taken l with bypasses := s.bypasses.map fun b =>
            if b.spot = sp ∧ b.function = f then { b with remaining := seconds (60 * minutes), link := l } else b } :
              State).replied l tag 0x32 .done)) ∧
      ((s.spotCfg.get sp).inService = false →
        exec (.bypassSet l tag (itemBody sp ++ be 1 code ++ be 2 minutes)) s =
          .next ((s.taken l).replied l tag 0x32 .refusedState))) ∧
    (s.takes l = true → (s.link l).authenticated = true →
      (s.bypassOf sp f = none → exec (.bypassEnd l tag (itemBody sp ++ be 1 code)) s =
        .next ((s.taken l).replied l tag 0x33 .refusedEmpty)) ∧
      ∀ b, s.bypassOf sp f = some b →
        (b.link = .supervisory → l = .panel → exec (.bypassEnd l tag (itemBody sp ++ be 1 code)) s =
          .next ((s.taken l).replied l tag 0x33 .refusedSeat)) ∧
        (¬(b.link = .supervisory ∧ l = .panel) → exec (.bypassEnd l tag (itemBody sp ++ be 1 code)) s =
            .next ((done (without (s.taken l))).replied l tag 0x33 .done) ∧
          (done (without (s.taken l))).bypasses = (without s).bypasses)) ∧
    ((∃ b, s.bypassOf sp f = some b ∧ b.remaining ≠ 0) → exec (.bypassExpiry sp f) s = .next s) ∧
    (∀ b, s.powered = true → s.bypassOf sp f = some b → b.remaining = 0 →
      ∃ t, exec (.bypassExpiry sp f) s = .next t ∧ t = done (without (s.latchSpot sp .bypassExpired)) ∧
        t.bypassOf sp f = none ∧ t.spotLatched sp .bypassExpired = true ∧ t.bypasses = (without s).bypasses ∧
        t.reading g = s.lineValue g)

/-- Sections 11.2 to 11.4: SET CLOCK, LOCK METROLOGY and RESTART from an authenticated link, and CLOCK_TICK. The clock takes a
value from 1 and refuses 0; a tick raises a set clock by one up to 4,294,967,295; the lock becomes pending once; RESTART is
answered DONE, and nothing else happens before its reply has been sent. -/
def Obligations.ClockLockAndRestartRequests : Prop :=
  ∀ (s : State) (l : Link) (tag : Byte),
    (s.takes l = true → (s.link l).authenticated = true →
      (∀ n, 1 ≤ n → n ≤ 4294967295 → exec (.setClock l tag (be 4 n)) s =
        .next (({ s.taken l with clock := some n } : State).replied l tag 0x36 .done)) ∧
      exec (.setClock l tag (be 4 0)) s = .next ((s.taken l).replied l tag 0x36 .refusedField) ∧
      (s.lock = .none → exec (.lockMetrology l tag []) s =
        .next (({ s.taken l with lock := .pending } : State).replied l tag 0x37 .done)) ∧
      (s.lock ≠ .none → exec (.lockMetrology l tag []) s = .next ((s.taken l).replied l tag 0x37 .done)) ∧
      exec (.restart l tag []) s = .next ((s.taken l).reply l tag 0x38 ⟨.done, .none, .restart⟩)) ∧
    (s.powered = true → exec .clockTick s =
      .next { s with clock := s.clock.map fun n => if n < 4294967295 then n + 1 else 4294967295 })

/-- Section 10.3: AUTHENTICATE with the supervisor code authenticates its link and sets the failure count to 0; with another
code it ends the link's authentication and counts the failure, up to 255, which at a nonzero attempt limit sets the lockout
flag and latches AUTH_LOCKOUT; nothing else changes, and the other link is not touched by either outcome. Under lockout it is
refused. DEAUTHENTICATE ends the authentication of its link. -/
def Obligations.AuthenticationCountsFailures : Prop :=
  ∀ (s : State) (l : Link) (tag : Byte) (code : Nat), s.takes l = true → code < 4294967296 →
    (s.lockout = true → exec (.authenticate l tag (be 4 code)) s =
      .next ((s.taken l).replied l tag 0x40 .refusedLocked)) ∧
    (s.lockout = false → code = s.unit.supervisorCode → exec (.authenticate l tag (be 4 code)) s =
      .next ((({ s.taken l with failures := 0 } : State).modLink l fun u => { u with authenticated := true }).replied
        l tag 0x40 .done)) ∧
    (s.lockout = false → code ≠ s.unit.supervisorCode →
      let n := min (s.failures + 1) 255
      let reached : Prop := s.unit.attemptLimit ≠ 0 ∧ s.unit.attemptLimit ≤ n
      let counted : State := ({ s.taken l with failures := n } : State).modLink l fun u => { u with authenticated := false }
      (¬reached → exec (.authenticate l tag (be 4 code)) s = .next (counted.replied l tag 0x40 .refusedAuth)) ∧
      (reached → exec (.authenticate l tag (be 4 code)) s =
        .next (({ counted with lockout := true, latches := { s.latches with authLockout := true } } : State).replied
          l tag 0x40 .refusedAuth))) ∧
    (∀ t, exec (.authenticate l tag (be 4 code)) s = .next t →
      (t.link l).authenticated = (if s.lockout then (s.link l).authenticated else decide (code = s.unit.supervisorCode)) ∧
      ∀ m, m ≠ l → t.link m = s.link m) ∧
    exec (.deauthenticate l tag []) s =
      .next (((s.taken l).modLink l fun u => { u with authenticated := false }).replied l tag 0x41 .done)

/-! ### Link events, the supply, the inputs -/

/-- Sections 10.1 and 10.2: what each event of a receiver or an exchange leaves: a marker begins a frame, a frame that fails a
test is dropped, silence ends FRAME and DISCARD, an overrun is dropped with its mark, the last byte of a reply frees the
exchange, and a request of a kind outside the catalogue is answered REFUSED_KIND. That the settings then in force are those of
the CONFIGURE whose reply has ended, also where the other link has stored another record since, is the MODEL's choice (log
41). -/
def Obligations.LinkEventsMoveTheReceiver : Prop :=
  ∀ (s : State) (l : Link), s.powered = true →
    ((s.link l).rx = .hunt → exec (.markerReceived l) s =
      .next (s.receive l (.frame (s.link l).inForce.address (s.link l).busy []))) ∧
    (∀ bytes, (s.link l).rx = .hunt ∨ (∃ m g, (s.link l).rx = .frame (s.link l).frameAddress m g) →
      (judgeFrame (s.link l).frameAddress bytes = .oversize →
        exec (.frameRejected l bytes) s = .next (s.receive l .discard)) ∧
      (judgeFrame (s.link l).frameAddress bytes = .badAddress ∨ judgeFrame (s.link l).frameAddress bytes = .badCheck →
        exec (.frameRejected l bytes) s = .next (s.receive l .hunt))) ∧
    ((∃ a m g, (s.link l).rx = .frame a m g) → exec (.frameSilenceTimeout l) s = .next (s.receive l .hunt)) ∧
    ((s.link l).rx = .discard → exec (.discardSilenceEnd l) s = .next (s.receive l .hunt)) ∧
    ((s.link l).overruns = true → ∃ t, exec (.linkOverrun l) s = .next t ∧
      t = { s with links := t.links, latches := { s.latches with linkOverrun := s.latches.linkOverrun.set (linkIndex l) true } } ∧
      t.link l = { s.link l with rx := .hunt } ∧ ∀ m, m ≠ l → t.link m = s.link m) ∧
    (∀ r, (s.link l).exchange = .busy r .nothing → exec (.replySent l) s =
      .next (s.modLink l fun u => { u with exchange := .idle })) ∧
    (∀ r m cfg, (s.link l).exchange = .busy r (.applyLink m cfg) →
      exec (.replySent l) s = .next ((s.modLink l fun u => { u with exchange := .idle }).modLink m fun u =>
        { u with inForce := cfg })) ∧
    ∀ tag kind body, s.takes l = true → kind ∉ catalogue →
      exec (.uncataloguedRequest l tag kind body) s = .next ((s.taken l).replied l tag kind .refusedKind)

/-- Sections 1.8, 3.1, 4.7, 7.1, 7.5, 8.5, 9.7, 10.4 and 11.4: POWER_UP, and the last byte of the reply to RESTART, start the
controller anew: clock, bypasses, authentication, failures and lockout are gone, links are in HUNT and IDLE, a pending lock is
effective, RESTARTED and CLOCK_NOT_SET are latched; settings and queued tickets stay. The inputs as first presented give each
compressor its state and the site trip its causes; vessels are STALE; a retained record that earns a ticket brings its spot
back to CLOSING, or TRIPPED under a site trip, SPOT_ESD or a high level; a spot without one is VACANT; with the ticket queue
full the pending order keeps its places and takes the other restored spots behind them. At SUPPLY_LOSS every output and the
attention line drop, and only retained storage is left. The outputs are assigned as R140 fixes them. Three points are the
MODEL's: POWER_UP with the supply on restarts too (log 16), a compressor's position is the direction proven at the first
presentation (log 18), and a blank vessel's age limit is 0 (log 28). -/
def Obligations.RestartBeginsAnewFromRetainedStorage : Prop :=
  (∀ (s : State) (c : Instr),
      (c = .powerUp ∨ ∃ l r, c = .replySent l ∧ s.powered = true ∧ (s.link l).exchange = .busy r .restart) →
      ∃ t, exec c s = .next t ∧ t.powered = true ∧ t.clock = none ∧ t.bypasses = [] ∧ t.failures = 0 ∧ t.lockout = false ∧
        t.latches.restarted = true ∧ t.latches.clockNotSet = true ∧ t.lock = s.lock.restarted ∧
        (∀ l, t.link l = LinkUnit.blank (s.linkCfg.get (linkIndex l))) ∧
        t.unit = s.unit ∧ t.spotCfg = s.spotCfg ∧ t.lineCfg = s.lineCfg ∧ t.unitMask = s.unitMask ∧
        t.spotMask = s.spotMask ∧ (∃ new, t.tickets = s.tickets ++ new) ∧
        (∀ i, (t.lines.get i).filtered = (s.lines.get i).raw ∧ (t.lines.get i).candidate = none) ∧ t.queue = [] ∧
        (∀ v, t.vessels.get v = Vessel.blank) ∧
        (∀ k, (t.comps.get k).assigned = none ∧ (t.comps.get k).timer = none ∧ (t.comps.get k).commanded = .push ∧
          (t.comps.get k).position = (t.provenOf k).getD .push ∧
          (t.comps.get k).state = (if s.compService.get k = false then .outOfService
            else if t.reading (.comp k .fault) = true then .fault
            else if t.reading (.comp k .running) = true then .stopping true else .idle) ∧
          t.latches.compressorFault.get k = decide ((t.comps.get k).state = .fault)) ∧
        (t.siteTrip.active = true ↔ (∃ i, t.reading (.esd i) = true) ∨ s.unit.gasVote ≤ t.gasCount) ∧
        (∀ i, t.siteTrip.esd.get i = t.reading (.esd i)) ∧
        (t.siteTrip.gasVote = true ↔ s.unit.gasVote ≤ t.gasCount) ∧ t.latches.siteTrip = t.siteTrip.active ∧
        (∀ sp, (t.spots.get sp).seat = .supervisory) ∧
        (∀ sp, (∀ k, (s.spots.get sp).retained = some k → k.record.enteredTransfer = false ∧ k.record.netMass = 0) →
          t.stateOf sp = .vacant ∧ t.recordOf sp = none ∧ (t.spots.get sp).retained = none) ∧
        (∀ sp k, (s.spots.get sp).retained = some k → k.record.enteredTransfer = true ∨ 0 < k.record.netMass →
          let trip : Option TripCause := if t.siteTrip.active then some .site
            else if t.reading (.spot sp .spotEsd) then some .spotEsd
            else if t.highLevel k.record.order.vessel then some .vesselHigh else none
          let ended := if s.inPending sp then k.record.endCause else some EndCause.restart
          (∀ cause, trip = some cause → t.stateOf sp = .tripped ∧
            (t.spots.get sp).snapshot.map (fun x => x.cause) = some cause ∧
            t.recordOf sp = some { k.record with
              holdCause := none, ticketPending := false, tripCause := some cause, endCause := some (ended.getD .tripped) }) ∧
          (trip = none → s.readyPending sp = false → t.allClosed sp = false →
            t.stateOf sp = .closing ∧ (t.spots.get sp).engine = .closedCheck ∧
            (t.spots.get sp).meter.window = some 500 ∧
            t.recordOf sp = some { k.record with holdCause := none, ticketPending := true, endCause := ended })) ∧
        (32 ≤ s.tickets.length → t.siteTrip.active = false → (∀ sp, t.reading (.spot sp .spotEsd) = false) →
          (∀ v, t.highLevel v = false) →
          let back (sp : SpotId) : Bool := (s.spots.get sp).retained.any fun k =>
            k.record.enteredTransfer || decide (0 < k.record.netMass)
          t.pendingOrder.map (fun e => e.spot) = (s.pendingOrder.map (fun e => e.spot)).filter back ++
            allSpots.filter (fun sp => back sp && !s.inPending sp))) ∧
  (∀ s : State, ∃ t, exec .supplyLoss s = .next t ∧ t.powered = false ∧ t.clock = none ∧ t.attention = false ∧
      (∀ n, t.discreteOutput n = false) ∧
      t.siteClear = false ∧ t.bypassActive = false ∧ (∀ sp v, t.valveOutput sp v = false) ∧
      (∀ c, t.runOutput c = false ∧ t.dirOutput c = false) ∧ t.unit = s.unit ∧ t.spotCfg = s.spotCfg ∧
      t.products = s.products ∧ t.vesselCfg = s.vesselCfg ∧ t.compCfg = s.compCfg ∧ t.compService = s.compService ∧
      t.lineCfg = s.lineCfg ∧ t.lineUp = s.lineUp ∧ t.closeDown = s.closeDown ∧ t.linkCfg = s.linkCfg ∧
      t.scaling = s.scaling ∧ t.lock = s.lock ∧ t.tickets = s.tickets ∧ t.ticketCounter = s.ticketCounter ∧
      t.pendingOrder = s.pendingOrder ∧
      ∀ sp, t.stateOf sp = .vacant ∧ t.recordOf sp = none ∧ (t.spots.get sp).retained = (s.spots.get sp).retained ∧
        (t.spots.get sp).meter.totaliser = (s.spots.get sp).meter.totaliser) ∧
  ∀ (s : State) (n : Fin 48),
    (∀ sp v, n.val = 5 * sp.val + (valveIndex v).val →
      s.discreteOutput n = (s.powered && decide ((s.valve sp v).command = .toOpen))) ∧
    (∀ c, n.val = 40 + 2 * c.val → s.discreteOutput n = s.runOutput c) ∧
    (∀ c, n.val = 41 + 2 * c.val → s.discreteOutput n = s.dirOutput c) ∧
    (n.val = 46 → s.discreteOutput n = (s.powered && !s.siteTrip.active)) ∧
    (n.val = 47 → s.discreteOutput n = (s.powered && !s.bypasses.isEmpty))

/-- Sections 7.1 to 7.3, with what a changed reading does (sections 1.3, 2.4, 3.7, 4.2, 4.3, 6.1, 6.2, 8.2 and 8.3): a raw level
that changes away from the filtered level starts a candidate with a window of one to two filter times, one that changes back
cancels it; with a filter time of 0 the new level is accepted at once. FILTER_ACCEPT turns the filtered level over, latches
INPUT_EDGE where the edge choice includes the change, and takes a changed reading to its user: a permissive, SPOT_ESD,
VAPOUR_IN_LINE, which marks the window in progress, ESD, a gas vote, HIGH_LEVEL, RUNNING, FAULT, or a proof. A proof reaches
its valve, and then moves the list of its spot on: a valve that now shows its command (OPEN is open-proven alone, CLOSED
closed-proven alone) ends its stroke, stops its disagreement timer and clears its fault indication; one that does not show it,
without a stroke, a fault or a running timer, starts the disagreement timer with its stroke timeout; a stroke or timer that
runs goes on, and so does a fault; out of service nothing is timed. (PUSH_PROVEN, PULL_PROVEN and the end of the restart hold stand in CompressorAndUllageTimersExpire.) That
FILTER_ACCEPT on a line without a candidate does nothing is the MODEL's choice (log 1), and so is that it does nothing before
the acceptance window has begun and acts however late it comes after that (log 13). (That a GAS function whose activation
leaves the count at the vote is the cause also where one CONFIGURE moves an active line to it from another GAS function is the
MODEL's choice, log 35.) -/
def Obligations.LinesFilterTheirLevels : Prop :=
  (∀ (s : State) (i : LineId), s.powered = true →
    (∀ level, level ≠ (s.lines.get i).raw → (s.lineCfg.get i).filterTime ≠ 0 →
      exec (.rawLevelChange i level) s = .next (s.modLine i fun x =>
        { x with
          raw := level
          candidate := if level = x.filtered then none
            else some ((s.lineCfg.get i).filterTime, 2 * (s.lineCfg.get i).filterTime) })) ∧
    (∀ level, level ≠ (s.lines.get i).raw → (s.lineCfg.get i).filterTime = 0 →
      ∃ t, exec (.rawLevelChange i level) s = .next t ∧ (t.lines.get i).raw = level ∧ (t.lines.get i).filtered = level ∧
        (t.lines.get i).candidate = none ∧ ∀ j, j ≠ i → t.lines.get j = s.lines.get j) ∧
    ((s.lines.get i).candidate = none ∨ (∃ n m, (s.lines.get i).candidate = some (n + 1, m)) →
      exec (.filterAccept i) s = .next s) ∧
    (∀ m, (s.lines.get i).candidate = some (0, m) → ∃ t, exec (.filterAccept i) s = .next t ∧
      (t.lines.get i).filtered ≠ (s.lines.get i).filtered ∧ (t.lines.get i).raw = (s.lines.get i).raw ∧
      (t.lines.get i).candidate = none ∧ (∀ j, j ≠ i → t.lines.get j = s.lines.get j) ∧
      ((s.lineCfg.get i).function = none → t = { s with lines := t.lines }) ∧
      ∀ f, (s.lineCfg.get i).function = some f →
        let u : State := { s with lines := t.lines }
        let active : Prop := (t.lines.get i).filtered = (s.lineCfg.get i).activeLevel
        let marked : Prop := (s.lineCfg.get i).edge = .both ∨ (s.lineCfg.get i).edge = .activation ∧ active ∨
          (s.lineCfg.get i).edge = .deactivation ∧ ¬active
        ∃ w, (marked → w = u.latchInputEdge f) ∧ (¬marked → w = u) ∧
          t = Reacted.settled (w, if u.reading f = s.reading f then [] else [.functionChanged f (u.reading f)]))) ∧
  (∀ (s : State) (sp : SpotId),
    (∀ f ∈ permissives,
      ((s.stateOf sp).trippable = true →
        s.react (.functionChanged (.spot sp f) false) = (s, [.spotTrip sp .permissive]) ∧
        s.react (.functionChanged (.spot sp f) true) = (s, [])) ∧
      (s.stateOf sp = .ordered →
        s.react (.functionChanged (.spot sp f) false) = (s.modSpot sp fun p => { p with proving := none }, []) ∧
        s.react (.functionChanged (.spot sp f) true) = (if s.allHealthy sp then s.modSpot sp fun p =>
          { p with proving := some (seconds (s.spotCfg.get sp).provingTime) } else s, [])) ∧
      (s.stateOf sp = .complete → s.react (.functionChanged (.spot sp f) false) = (s, [.departureTest sp]))) ∧
    s.react (.functionChanged (.spot sp .spotEsd) true) = (s, [.spotTrip sp .spotEsd]) ∧
    s.react (.functionChanged (.spot sp .spotEsd) false) = (s, []) ∧
    (∀ cause, (s.stateOf sp).trippable = true → (s.react (.spotTrip sp cause)).1.stateOf sp = .tripped ∧
      ((s.react (.spotTrip sp cause)).1.recordOf sp).map (fun r => r.tripCause) =
        (s.recordOf sp).map (fun _ => some cause)) ∧
    (∀ cause, (s.stateOf sp).trippable = false → s.react (.spotTrip sp cause) = (s, [])) ∧
    ((s.spots.get sp).meter.window ≠ none → s.react (.functionChanged (.spot sp .vapourInLine) true) =
      (s.modSpot sp fun p => { p with meter := { p.meter with vapourSeen := true } }, [])) ∧
    ((s.spots.get sp).meter.window = none → s.react (.functionChanged (.spot sp .vapourInLine) true) = (s, [])) ∧
    s.react (.functionChanged (.spot sp .vapourInLine) false) = (s, []) ∧
    (∀ v b f, f = SpotFn.openProven v ∨ f = SpotFn.closedProven v →
      let u := s.valve sp v
      let opened := s.reading (.spot sp (.openProven v))
      let closed := s.reading (.spot sp (.closedProven v))
      let shows : Prop := u.command = .toOpen ∧ opened = true ∧ closed = false ∨
        u.command = .toClose ∧ closed = true ∧ opened = false
      let inService := (s.spotCfg.get sp).inService
      let becomes (w : ValveUnit) : Reacted :=
        (s.modSpot sp fun p => { p with valves := p.valves.set (valveIndex v) w }, [.engineRun sp])
      let t := s.react (.functionChanged (.spot sp f) b)
      (inService = true → shows → t = becomes { u with stroke := none, disagreement := none, fault := false }) ∧
      (inService = true → ¬shows → u.stroke = none → u.disagreement = none → u.fault = false →
        t = becomes { u with disagreement := some (seconds ((s.spotCfg.get sp).strokeTimeouts.get (valveIndex v))) }) ∧
      (inService = true → ¬shows → u.stroke ≠ none ∨ u.disagreement ≠ none ∨ u.fault = true → t = (s, [.engineRun sp])) ∧
      (inService = false → shows → t = becomes { u with fault := false }) ∧
      (inService = false → ¬shows → t = (s, [.engineRun sp]))) ∧
    ∀ kind steps issued k, (s.spots.get sp).engine = .running ⟨kind, steps, issued, true⟩ → steps[issued - 1]? = some k →
      (s.shows sp k.valve k.action = false → s.react (.engineRun sp) = (s, [])) ∧
      (∀ j, s.shows sp k.valve k.action = true → steps[issued]? = some j → j.wait = true →
        s.shows sp j.valve j.action = false → (s.spotCfg.get sp).inService = true → s.siteTrip.active = false →
        s.stateOf sp ≠ .tripped →
        ((s.react (.engineRun sp)).1.spots.get sp).engine = .running ⟨kind, steps, issued + 1, true⟩ ∧
        ((s.react (.engineRun sp)).1.valve sp j.valve).command = j.action ∧ (s.react (.engineRun sp)).2 = [] ∧
        (s.react (.engineRun sp)).1.stateOf sp = s.stateOf sp) ∧
      (s.shows sp k.valve k.action = true → steps[issued]? = none → kind ≠ .closeDown → s.stateOf sp = .liningUp →
        (∀ v m, (s.valve sp v).stroke = some m → ∀ n, m.owner ≠ .listStep n) →
        (s.react (.engineRun sp)).1.stateOf sp = .ready ∧ ((s.react (.engineRun sp)).1.spots.get sp).engine = .idle)) ∧
  ∀ s : State,
    (∀ i, s.react (.functionChanged (.esd i) true) = (s, [.siteCause (.esd i)]) ∧
      s.react (.functionChanged (.esd i) false) = (s, [])) ∧
    (∀ g, (s.gasCount = s.unit.gasVote → s.react (.functionChanged (.gas g) true) = (s, [.siteCause .gasVote])) ∧
      (s.gasCount < s.unit.gasVote ∨ s.unit.gasVote < s.gasCount ∧ s.siteTrip.active = true ∧ s.siteTrip.gasVote = true →
        s.react (.functionChanged (.gas g) true) = (s, [])) ∧
      s.react (.functionChanged (.gas g) false) = (s, [])) ∧
    (∀ c, s.siteTrip.active = true → s.react (.siteCause c) =
      (({ s with siteTrip := { s.siteTrip.add c with active := true } } : State).latchSiteTrip, [])) ∧
    (∀ v, (s.react (.functionChanged (.highLevel v) true)).1 = s.latchVesselHigh v ∧
      (∀ r, r ∈ (s.react (.functionChanged (.highLevel v) true)).2 ↔
        ∃ sp, s.vesselOf sp = some v ∧ r = .spotTrip sp .vesselHigh) ∧
      s.react (.functionChanged (.highLevel v) false) = (s, [.grantPass v])) ∧
    ∀ c,
      (∀ sp d, (s.comps.get c).state = .starting → (s.comps.get c).assigned = some (sp, d) →
        s.react (.functionChanged (.comp c .running) true) =
          (s.modComp c fun x => { x with state := d.runState, timer := none }, [.runReached c])) ∧
      ((s.comps.get c).state ∈ [CompState.runPush, .runPull, .changeoverInPlace] →
        s.react (.functionChanged (.comp c .running) false) = (s, [.compressorFault c])) ∧
      ((s.comps.get c).state ∉ [CompState.outOfService, .fault] →
        s.react (.functionChanged (.comp c .fault) true) = (s, [.compressorFault c])) ∧
      ((s.comps.get c).state ∈ [CompState.outOfService, .fault] →
        s.react (.functionChanged (.comp c .fault) true) = (s, [])) ∧
      s.react (.functionChanged (.comp c .fault) false) = (s, []) ∧
      ((s.comps.get c).state ≠ .starting → s.react (.functionChanged (.comp c .running) true) = (s, [])) ∧
      ((s.comps.get c).state ∉ [CompState.runPush, .runPull, .changeoverInPlace, .stopping true] →
        s.react (.functionChanged (.comp c .running) false) = (s, []))

/-- Section 7.4, with what a conversion does (sections 2.5, 5.2, 5.7 and 5.8): a conversion of 3,600 to 21,000 µA is good: its
reading is at the ends of the scale outside 4,000 to 20,000 µA and between them on the straight line, to the nearest unit, a
tie away from zero; any other sets the channel's fault and keeps the reading. No other channel moves. A temperature channel
makes its spot's hold live, held for 60 s or substituted; a pressure channel that enters fault freezes dwell and stall and
ends a recovery; a good car pressure is tested against the car maximum, the vacuum guard and the recovery target; a good
vessel pressure reaches every spot whose order names the vessel. The order of these reactions (overpressure, recovery, dwell,
transfer; the spots in spot order; storage, compressor and list at the entry to CLOSING) is the MODEL's choice (log 2). -/
def Obligations.ConversionsScaleToTheNearestUnit : Prop :=
  (∀ (s : State) (ch : ChannelId) (microamps : Nat), s.powered = true →
    ∃ t : State, exec (.analogConversion ch microamps) s = .next t ∧
    (t.analog.get ch).current = some microamps ∧ (∀ k, k ≠ ch → t.analog.get k = s.analog.get k) ∧
    (microamps < 3600 ∨ 21000 < microamps →
      (t.analog.get ch).fault = true ∧ (t.analog.get ch).reading = (s.analog.get ch).reading ∧
      ((s.analog.get ch).fault = true → t = { s with analog := t.analog }) ∧
      ((s.analog.get ch).fault = false →
        (∀ sp, ch = tempChannel sp → t.spotLatched sp .tempChannel = true ∧ t.spots = s.spots.set sp { s.spots.get sp with
          meter := { (s.spots.get sp).meter with
            hold := if (s.analog.get ch).reading.isSome then .held 60000 else .substituted } }) ∧
        ∀ sp, (ch = carChannel sp ∧ s.stateOf sp ≠ .recovery ∨ ∃ v, ch = vesselChannel v ∧ s.vesselOf sp = some v) →
          t.stateOf sp = s.stateOf sp ∧ t.recordOf sp = s.recordOf sp ∧
          (s.stateOf sp = .transfer → (t.spots.get sp).driver = { (s.spots.get sp).driver with
            dwell := none, secondHalf := false, dwellMass := 0, slips := 0, stall := none }) ∧
          (s.stateOf sp ∈ [SpotState.pressurising, .transfer, .paused .ullage, .paused .compressor, .settling, .recovery] ∨
              s.stateOf sp = .awaitCompressor ∧ s.inPhase sp .recovery = true →
            t.spotLatched sp .pressureChannel = true))) ∧
    (3600 ≤ microamps → microamps ≤ 21000 → (t.analog.get ch).fault = false ∧
      (∃ x : Int, (t.analog.get ch).reading = some x ∧
        (microamps < 4000 → x = (s.scaling.get ch).low) ∧ (20000 < microamps → x = (s.scaling.get ch).high) ∧
        (4000 ≤ microamps → microamps ≤ 20000 →
          let exact : Int := (s.scaling.get ch).low * 16000 +
            ((microamps : Int) - 4000) * ((s.scaling.get ch).high - (s.scaling.get ch).low)
          2 * (16000 * x - exact).natAbs ≤ 16000 ∧
          (2 * (16000 * x - exact).natAbs = 16000 → exact.natAbs < (16000 * x).natAbs))) ∧
      (∀ sp, ch = tempChannel sp → t = { s with analog := t.analog, spots := s.spots.set sp { s.spots.get sp with
        meter := { (s.spots.get sp).meter with hold := .live } } }) ∧
      (∀ sp, ch = carChannel sp → t = Reacted.settled (({ s with analog := t.analog } : State),
        [.overpressureTest sp, .recoveryReading sp] ++ (if (s.analog.get ch).fault then [.resumeDwell sp] else []) ++
          [.transferTest sp])) ∧
      (∀ v, ch = vesselChannel v → t = Reacted.settled (({ s with analog := t.analog } : State),
        (allSpots.filter fun sp => decide (s.vesselOf sp = some v)).flatMap fun sp =>
          (if (s.analog.get ch).fault then [.resumeDwell sp] else []) ++ [.transferTest sp])))) ∧
  (∀ (s : State) (sp : SpotId) (microamps : Nat), s.powered = true → s.stateOf sp = .recovery →
    microamps < 3600 ∨ 21000 < microamps → (s.analog.get (carChannel sp)).fault = false →
    ∃ u : State, exec (.analogConversion (carChannel sp) microamps) s = .next (Reacted.settled (u,
        [.releaseStorage sp, .releaseCompressor sp false, .engineRun sp])) ∧ u.stateOf sp = .closing ∧
      u.recordOf sp = (s.recordOf sp).map (fun r => { r with
        holdCause := none, recoveryIncomplete := true
        recoveryEnd := ((s.analog.get (carChannel sp)).reading).or r.recoveryEnd }) ∧
      u.spotLatched sp .pressureChannel = true ∧ (∀ q, q ≠ sp → u.spots.get q = s.spots.get q)) ∧
  (∀ (s : State) (sp : SpotId) (microamps : Nat) (r : Record), s.powered = true → s.stateOf sp = .recovery →
    s.recordOf sp = some r → r.endCause ≠ some .aborted → microamps < 3600 ∨ 21000 < microamps →
    (s.analog.get (carChannel sp)).fault = false → s.noOtherWaits sp → s.firstStepWaits sp (s.closeDown.get sp) = true →
    ∃ (t : State) (r' : Record), exec (.analogConversion (carChannel sp) microamps) s = .next t ∧ t.stateOf sp = .closing ∧
      t.recordOf sp = some r' ∧ r'.recoveryIncomplete = true ∧ t.spotLatched sp .pressureChannel = true ∧ s.gaveUp t sp ∧
      ∀ x : Int, (s.analog.get (carChannel sp)).reading = some x → r'.recoveryEnd = some x) ∧
  ∀ (s : State) (sp : SpotId),
    (∀ x : Int, s.goodReading (carChannel sp) = some x →
      (s.stateOf sp ∈ [SpotState.pressurising, .transfer, .paused .ullage, .paused .compressor, .held, .settling, .recovery] →
        ((s.spotCfg.get sp).carMaximum : Int) ≤ x → s.react (.overpressureTest sp) = (s, [.spotTrip sp .carOverpressure])) ∧
      (x < ((s.spotCfg.get sp).carMaximum : Int) → s.react (.overpressureTest sp) = (s, [])) ∧
      (s.stateOf sp = .recovery →
        (x ≤ ((s.spotCfg.get sp).vacuumGuard : Int) →
          (s.react (.recoveryReading sp)).1.stateOf sp = .closing ∧
          (s.react (.recoveryReading sp)).2 = [.releaseStorage sp, .releaseCompressor sp true, .engineRun sp] ∧
          ((s.react (.recoveryReading sp)).1.recordOf sp).map (fun r => (r.recoveryEnd, r.recoveryIncomplete)) =
            (s.recordOf sp).map (fun _ => (some x, false))) ∧
        (((s.spotCfg.get sp).vacuumGuard : Int) < x → s.react (.recoveryReading sp) = (s.modSpot sp fun p =>
          { p with driver := { p.driver with
            recoveryProving := if s.atRecoveryTarget sp then
              some (p.driver.recoveryProving.getD (seconds (s.spotCfg.get sp).recoveryProving)) else none } }, [])))) ∧
    (s.stateOf sp ≠ .recovery → s.react (.recoveryReading sp) = (s, [])) ∧
    (s.stateOf sp = .transfer → s.pressuresGood sp = true → s.react (.resumeDwell sp) = (s.modSpot sp fun p =>
      { p with driver := { p.driver with
        dwell := some (seconds (s.spotCfg.get sp).dwell), secondHalf := false, dwellMass := 0, slips := 0 } }, [])) ∧
    (s.stateOf sp ≠ .transfer ∨ s.pressuresGood sp = false → s.react (.resumeDwell sp) = (s, []))

/-! ### Metering -/

/-- R45: the correction for temperature of a LIQUID window, by the product's expansion coefficient and the window temperature:
a million less the product of the coefficient and the distance from 15.0 °C, divided by 10 and rounded to the nearest integer,
a tie away from zero; clamped to 800,000 to 1,200,000. It sets no flag. -/
def Obligations.CtlRoundsToTheNearestAndClamps : Prop :=
  (∀ (alpha : Nat) (T : Int), ∃ q : Int,
    2 * (10 * q - (alpha : Int) * (T - 150)).natAbs ≤ 10 ∧
    (2 * (10 * q - (alpha : Int) * (T - 150)).natAbs = 10 → (alpha : Int) * (T - 150) * (10 * q - alpha * (T - 150)) > 0) ∧
    (800000 ≤ 1000000 - q → 1000000 - q ≤ 1200000 → (ctl alpha T : Int) = 1000000 - q) ∧
    (1000000 - q < 800000 → ctl alpha T = 800000) ∧ (1200000 < 1000000 - q → ctl alpha T = 1200000)) ∧
  (∀ alpha T, 800000 ≤ ctl alpha T ∧ ctl alpha T ≤ 1200000) ∧ ctl 4000 (-500) = 1200000 ∧
  (∀ alpha, ctl alpha 150 = 1000000) ∧ (∀ T, ctl 0 T = 1000000) ∧
  ∀ cfg product reading free r m, m.vapourSeen = false →
    ∃ T source, -500 ≤ T ∧ T ≤ 600 ∧
      (convertWindow cfg product reading free r m).meter.lastLiquid = some ⟨T, source, ctl product.alpha T⟩ ∧
      (convertWindow cfg product reading free r m).record.tempClamped =
        (r.tempClamped || decide (T ≠ (windowTemperature m.hold reading product.fallback free).1))

/-- Sections 2.2 to 2.6 and 3.6: WINDOW_CLOSE of a window that has run its full time, at a spot with an open record, in every state:
the primary's count becomes gross volume with its carried remainder; a VOID window adds to gross void alone; a LIQUID one, at
the temperature of R42 and R43, adds standard volume and net mass with theirs, notes a held, substituted or clamped
temperature and the extremes, and adds its whole kilograms to the totaliser, which rolls over at 1,000,000,000 with
TOTALISER_ROLL; the retained copy is written, a full window with both counts 0 follows, and the result goes to the vessel, the
driver and, with a new pulse fault, the spot. Of the latches the window itself adds PULSE_FAULT, CHANNEL_FAILOVER and
TOTALISER_ROLL of the spot where it raises them, and no other. In a state in which vessel, driver and spot have nothing to do
with the result, nothing else moves but the overrun test of R69: OVERRUN, once per record, noted in the record and its retained
copy. (Where no conversion has been made since restart the temperature of a live or held channel is free, and the model's count
of free values goes up by one, log 6.) -/
def Obligations.WindowCloseFillsTheRecord : Prop :=
  ∀ (s : State) (sp : SpotId) (r : Record), s.powered = true → (s.spots.get sp).meter.window = some 0 →
    s.recordOf sp = some r →
    ∃ (u : State) (r' : Record) (w : WindowResult) (raised rolled : Bool),
      exec (.windowClose sp) s = .next (Reacted.settled (u, [.windowToVessel sp w, .windowToDriver sp w] ++
        if raised then [.pulseFault sp] else [])) ∧
      u = { s with spots := u.spots, latches := u.latches, freeCount := u.freeCount } ∧
      (∀ q, q ≠ sp → u.spots.get q = s.spots.get q) ∧ u.recordOf sp = some r' ∧ u.stateOf sp = s.stateOf sp ∧
      (u.spots.get sp).driver = (s.spots.get sp).driver ∧ (u.spots.get sp).valves = (s.spots.get sp).valves ∧
      (u.spots.get sp).meter.window = some 500 ∧ (u.spots.get sp).meter.countA = 0 ∧ (u.spots.get sp).meter.countB = 0 ∧
      (u.spots.get sp).meter.vapourSeen = s.reading (.spot sp .vapourInLine) ∧
      (u.spots.get sp).retained = some ⟨r', (u.spots.get sp).meter.primary, (u.spots.get sp).meter.health⟩ ∧
      r'.order = r.order ∧ r'.phase = r.phase ∧ r'.endCause = r.endCause ∧ r'.holdCause = r.holdCause ∧
      r'.tripCause = r.tripCause ∧ r'.overrunLatched = r.overrunLatched ∧
      r'.enteredTransfer = r.enteredTransfer ∧ r'.startTimestamp = r.startTimestamp ∧ r'.endTimestamp = r.endTimestamp ∧
      r'.recoveryEnd = r.recoveryEnd ∧ r'.recoveryIncomplete = r.recoveryIncomplete ∧ r'.ticketPending = r.ticketPending ∧
      (let m := (s.spots.get sp).meter
       let m' := (u.spots.get sp).meter
       let count := (match m'.primary with | .a => m.countA | .b => m.countB)
       let k := (s.spotCfg.get sp).kFactor
       let numerator := count * 1000000 + r.rawRemainder
       let i := integrityCheck (s.spotCfg.get sp) r m
       raised = i.pulseFault ∧ r'.mismatch = i.mismatch ∧ r'.pulseFault = (r.pulseFault || i.pulseFault) ∧
       m'.primary = i.meter.primary ∧ m'.health = i.meter.health ∧ m'.flow = flowAfter (s.spotCfg.get sp) count m.flow ∧
       s.latches.gained u.latches sp ((if i.pulseFault then [.pulseFault] else []) ++
         (if i.failover then [.channelFailover] else []) ++ if rolled then [.totaliserRoll] else []) ∧
       r'.failover = (r.failover || i.failover) ∧
       w.count = count ∧ w.flow = m'.flow ∧ w.gross = numerator / k ∧ m'.last = some w ∧ r'.rawRemainder = numerator % k ∧
       (m.vapourSeen = true → w.cls = .void ∧ w.grams = 0 ∧ rolled = false ∧ u.freeCount = s.freeCount ∧
         r'.grossVoid = min (r.grossVoid + numerator / k) 4294967295 ∧ r'.grossLiquid = r.grossLiquid ∧
         r'.netMass = r.netMass ∧ r'.massRemainder = r.massRemainder ∧ r'.standardVolume = r.standardVolume ∧
         r'.standardRemainder = r.standardRemainder ∧ r'.overrun = r.overrun ∧ r'.tempExtremes = r.tempExtremes ∧
         r'.tempHeld = r.tempHeld ∧ r'.tempSubstituted = r.tempSubstituted ∧ r'.tempClamped = r.tempClamped ∧
         m'.totaliser = m.totaliser ∧ m'.totaliserGrams = m.totaliserGrams ∧ m'.lastLiquid = m.lastLiquid) ∧
       (m.vapourSeen = false → w.cls = .liquid ∧ ∃ T source x,
         let product := s.products.get r.order.product
         let p := numerator / k * (s.spotCfg.get sp).meterFactor * ctl product.alpha T
         let mass := p * product.density + r.massRemainder
         let kg := (m.totaliserGrams + mass / 10 ^ 14) / 1000
         T ≤ 600 ∧ -500 ≤ T ∧ m'.lastLiquid = some ⟨T, source, ctl product.alpha T⟩ ∧
         T = max (-500) (min 600 x) ∧
         source = (match m.hold with | .live => .live | .held _ => .held | .substituted => .substituted) ∧
         (∀ y, m.hold ≠ .substituted → (s.analog.get (tempChannel sp)).reading = some y → x = y) ∧
         (m.hold = .substituted → x = product.fallback) ∧
         u.freeCount = (if m.hold ≠ .substituted ∧ (s.analog.get (tempChannel sp)).reading = none then s.freeCount + 1
           else s.freeCount) ∧
         r'.tempHeld = (r.tempHeld || decide (source = .held)) ∧
         r'.tempSubstituted = (r.tempSubstituted || decide (source = .substituted)) ∧
         r'.tempClamped = (r.tempClamped || decide (x < -500 ∨ 600 < x)) ∧
         r'.tempExtremes = some (match r.tempExtremes with | none => (T, T) | some (lo, hi) => (min lo T, max hi T)) ∧
         r'.grossLiquid = min (r.grossLiquid + numerator / k) 4294967295 ∧ r'.grossVoid = r.grossVoid ∧
         r'.standardVolume = min (r.standardVolume + (p + r.standardRemainder) / 10 ^ 10) 4294967295 ∧
         r'.standardRemainder = (p + r.standardRemainder) % 10 ^ 10 ∧ w.grams = mass / 10 ^ 14 ∧
         r'.netMass = min (r.netMass + mass / 10 ^ 14) 4294967295 ∧ r'.massRemainder = mass % 10 ^ 14 ∧
         (∀ preset, r.order.mode = .preset preset → r'.overrun = r'.netMass - preset * 1000) ∧
         m'.totaliser = (m.totaliser + kg) % 1000000000 ∧ m'.totaliserGrams = (m.totaliserGrams + mass / 10 ^ 14) % 1000 ∧
         rolled = decide (1000000000 ≤ m.totaliser + kg))) ∧
      (s.stateOf sp ∈ [SpotState.ordered, .liningUp, .ready, .held, .closing, .tripped] →
        ∃ (t : State) (overran : Bool), exec (.windowClose sp) s = .next t ∧
          (overran = true ↔ r'.overrunLatched = false ∧ ∃ preset, r.order.mode = .preset preset ∧
            (s.spotCfg.get sp).overrunTolerance * 1000 < r'.overrun) ∧
          t = { u with spots := t.spots, latches := t.latches } ∧
          u.latches.gained t.latches sp (if overran then [.overrun] else []) ∧
          (∀ q, q ≠ sp → t.spots.get q = u.spots.get q) ∧
          (let noted : Record := { r' with overrunLatched := r'.overrunLatched || overran }
           t.spots.get sp = { u.spots.get sp with
             record := some noted
             retained := some ⟨noted, (u.spots.get sp).meter.primary, (u.spots.get sp).meter.health⟩ }))

/-- Sections 1.3, 2.2 to 2.5, 5.2, 5.4, 5.5 and 5.6: a pulse counts on its channel while a window runs, up to 65,535;
TEMP_HOLD_EXPIRY of a hold that has run out makes the temperature substituted. The integrity checks of a window: the mismatch
total, the pulse-fault indication once per record, and the failover at the third silent window in a row. The flow-present
state. A window result at the driver: in TRANSFER the dwell mass or a slip, the void run, stall timing and liquid-out, which sends
the spot to SETTLING, its storage released and, unless the order carries a recovery target, its compressor too, as a normal
release, and its car pressure tested; in SETTLING the settle timer. A pulse fault holds a spot in TRANSFER whose option is set. (That the dwell mass stays at
4,294,967,295 is the MODEL's choice, log 31, and so are the orders storage, compressor, overpressure test at the entry to
SETTLING and compressor, storage, overpressure test at the entry to HELD, log 2.) -/
def Obligations.PulsesCountAndTheHoldEnds : Prop :=
  (∀ (s : State) (sp : SpotId), s.powered = true →
    ((s.spots.get sp).meter.window.isSome = true →
      exec (.pulseEdge sp .a) s = .next (s.modSpot sp fun p =>
        { p with meter := { p.meter with countA := min (p.meter.countA + 1) 65535 } }) ∧
      exec (.pulseEdge sp .b) s = .next (s.modSpot sp fun p =>
        { p with meter := { p.meter with countB := min (p.meter.countB + 1) 65535 } })) ∧
    ((s.spots.get sp).meter.hold = .held 0 → exec (.tempHoldExpiry sp) s =
      .next (s.modSpot sp fun p => { p with meter := { p.meter with hold := .substituted } }))) ∧
  (∀ (cfg : SpotCfg) (r : Record) (m : Meter), 1 ≤ cfg.flowOn →
    let i := integrityCheck cfg r m
    let silentA : Prop := m.countA = 0 ∧ cfg.flowOn ≤ m.countB
    let silentB : Prop := m.countB = 0 ∧ cfg.flowOn ≤ m.countA
    (m.health ≠ .both → i = ⟨m, r.mismatch, false, false⟩) ∧
    (m.health = .both →
      i.mismatch = min (r.mismatch + (max m.countA m.countB - min m.countA m.countB - 1)) 4294967295 ∧
      (i.pulseFault = true ↔ r.pulseFault = false ∧ cfg.mismatchThreshold ≤ i.mismatch) ∧
      (i.failover = true ↔ silentA ∧ 2 ≤ m.silentA ∨ silentB ∧ 2 ≤ m.silentB) ∧
      (silentA → 2 ≤ m.silentA → i.meter = { m with primary := .b, health := .aFailed, silentA := 0, silentB := 0 }) ∧
      (silentB → 2 ≤ m.silentB → i.meter = { m with health := .bFailed, silentA := 0, silentB := 0 }) ∧
      (silentA → m.silentA < 2 → i.meter = { m with silentA := m.silentA + 1, silentB := 0 }) ∧
      (silentB → m.silentB < 2 → i.meter = { m with silentA := 0, silentB := m.silentB + 1 }) ∧
      (¬silentA → ¬silentB → i.meter = { m with silentA := 0, silentB := 0 }))) ∧
  (∀ (cfg : SpotCfg) (n : Nat) (before : Bool), cfg.flowOff ≤ cfg.flowOn →
    (cfg.flowOn ≤ n → flowAfter cfg n before = true) ∧ (n < cfg.flowOff → flowAfter cfg n before = false) ∧
    (cfg.flowOff ≤ n → n < cfg.flowOn → flowAfter cfg n before = before)) ∧
  (∀ (s : State) (sp : SpotId) (w : WindowResult),
    let d := (s.spots.get sp).driver
    let cfg := s.spotCfg.get sp
    let t := s.react (.windowToDriver sp w)
    let stalls : Prop := w.flow = false ∧ w.cls = .liquid ∧ d.stall = none ∧ ∃ x, s.dp sp = some x ∧ (cfg.stallDp : Int) ≤ x
    (s.stateOf sp = .transfer → w.cls = .void → cfg.emptyCount ≤ d.voidRun + 1 →
      t.1.stateOf sp = .settling ∧
      t.1.recordOf sp = (s.recordOf sp).map (fun r => { r with endCause := some .liquidOut, holdCause := none }) ∧
      t.1.spotLatched sp .liquidOut = true ∧ (t.1.spots.get sp).driver.settleLimit = some 60000 ∧
      (t.1.spots.get sp).driver.settle =
        (if (s.spots.get sp).meter.flow then none else some (seconds cfg.settleTime)) ∧
      (t.1.spots.get sp).engine = .idle ∧ (cfg.inService = true → (t.1.valve sp .lh).command = .toClose) ∧
      t.1 = { s with spots := t.1.spots, latches := t.1.latches, queue := s.queue.filter fun e => !decide (e.spot = sp) } ∧
      (∀ q, q ≠ sp → t.1.spots.get q = s.spots.get q) ∧
      ∀ r, s.recordOf sp = some r → t.2 = [.releaseStorage sp] ++
        (if r.order.recoveryTarget.isSome then [] else [.releaseCompressor sp false]) ++ [.overpressureTest sp]) ∧
    (s.stateOf sp = .transfer → ¬(w.cls = .void ∧ cfg.emptyCount ≤ d.voidRun + 1) →
      t.2 = [] ∧ t.1.stateOf sp = .transfer ∧ t.1.recordOf sp = s.recordOf sp ∧
      (t.1.spots.get sp).driver = { d with
        dwellMass := if d.dwell.isSome ∧ w.cls = .liquid then min (d.dwellMass + w.grams) 4294967295 else d.dwellMass
        slips := if d.dwell.isSome ∧ w.cls = .void ∧ d.secondHalf then min (d.slips + 1) 255 else d.slips
        voidRun := if w.cls = .void then d.voidRun + 1 else 0
        stall := (t.1.spots.get sp).driver.stall } ∧
      (w.flow = true → (t.1.spots.get sp).driver.stall = none) ∧
      (stalls → (t.1.spots.get sp).driver.stall = some (seconds cfg.stallTime) ∧ t.1.spotLatched sp .flowStall = true) ∧
      (w.flow = false → ¬stalls → (t.1.spots.get sp).driver.stall = d.stall) ∧ (¬stalls → t.1.latches = s.latches)) ∧
    (s.stateOf sp = .settling → t = (s.modSpot sp fun p => { p with driver := { p.driver with
      settle := if w.flow then none else some (p.driver.settle.getD (seconds cfg.settleTime)) } }, [])) ∧
    (s.stateOf sp ≠ .transfer → s.stateOf sp ≠ .settling → t = (s, []))) ∧
  ∀ (s : State) (sp : SpotId),
    (s.stateOf sp = .transfer → (s.spotCfg.get sp).holdOnPulseFault = true →
      (s.react (.pulseFault sp)).1.stateOf sp = .held ∧
      ((s.react (.pulseFault sp)).1.recordOf sp).map (fun r => r.holdCause) = (s.recordOf sp).map (fun _ => some .pulseFault) ∧
      (s.react (.pulseFault sp)).2 = [.releaseCompressor sp false, .releaseStorage sp, .overpressureTest sp]) ∧
    (s.stateOf sp ≠ .transfer ∨ (s.spotCfg.get sp).holdOnPulseFault = false → s.react (.pulseFault sp) = (s, []))

/-! ### Vessels and the wait queue -/

/-- Sections 3.3 to 3.6: consumption draws whole kilograms from a spot's current reservation first, then from its next one: C
falls by the kilograms drawn, never more than the spot has outstanding, the gram remainder keeps what is below a kilogram, and
no other spot's reservation moves. At a window result the preset stop comes first; then an exhausted current reservation
leaves, its place taken by the next one, or the spot in TRANSFER goes to PAUSED for ullage; then the lookahead asks at one
fifth; the overrun is latched once per record, in the record and its retained copy. A release deletes all that a spot holds at
its vessel and sets its remainder to 0; the grant pass runs if it held a reservation or a request. The ullage wait starts with
the spot's limit where the spot holds a compressor, runs no wait, and is in PAUSED for ullage, or in PRESSURISING with a
request pending and no current block; a limit of 0 gives the compressor up at that event, in PAUSED for ullage. (The orders of the parts of
an entry, storage, compressor and overpressure test at SETTLING, wait, request and overpressure test at PAUSED for ullage, are
the MODEL's choice, log 2.) (That a window which runs the current and the next reservation to 0 leaves the spot without a
block at once is the MODEL's choice, log 38; that a remainder alone is nothing held, log 33; and that a reservation which the
window of a preset stop has run to 0 is still held at that stop's release, whose grant pass so runs, log 42.) -/
def Obligations.ConsumptionDrawsWholeKilograms : Prop :=
  (∀ (v : Vessel) (sp : SpotId) (grams : Nat), v.balanced →
    let kg := (v.remainders.get sp + grams) / 1000
    let held := outstandingSum (v.reservations.filter fun r => decide (r.spot = sp))
    let amount (k : Rank) (x : Vessel) := ((x.reservation sp k).map fun r => r.outstanding).getD 0
    (v.consume sp grams).committed = v.committed - min kg held ∧
    (v.consume sp grams).remainders.get sp = (v.remainders.get sp + grams) % 1000 ∧
    outstandingSum ((v.consume sp grams).reservations.filter fun r => decide (r.spot = sp)) = held - min kg held ∧
    (v.consume sp grams).reservations.filter (fun r => !decide (r.spot = sp)) =
      v.reservations.filter (fun r => !decide (r.spot = sp)) ∧
    ((∀ k : Rank, (v.reservations.filter fun r => decide (r.spot = sp ∧ r.rank = k)).length ≤ 1) →
      amount .current (v.consume sp grams) = amount .current v - kg ∧
      amount .next (v.consume sp grams) = amount .next v - (kg - amount .current v)) ∧
    (v.consume sp grams).ullage = v.ullage ∧ (v.consume sp grams).requests = v.requests ∧
    (v.consume sp grams).balanced) ∧
  (∀ (s : State) (sp : SpotId) (r : Record) (w : WindowResult), s.recordOf sp = some r →
    let v := r.order.vessel
    let draws : Bool := decide (w.cls = .liquid) && (decide (s.stateOf sp ∈ [SpotState.pressurising, .transfer, .paused .ullage,
      .paused .compressor]) || decide (s.stateOf sp = .awaitCompressor ∧ r.phase = .liquid))
    let x := if draws then (s.vessels.get v).consume sp w.grams else s.vessels.get v
    let stops : Prop := s.stateOf sp = .transfer ∧
      ∃ kg, r.order.mode = .preset kg ∧ kg * 1000 ≤ r.netMass + (s.spotCfg.get sp).presetLead * 1000
    let t := s.react (.windowToVessel sp w)
    (∀ u, u ≠ v → t.1.vessels.get u = s.vessels.get u) ∧
    (stops → t.1.stateOf sp = .settling ∧ t.1.recordOf sp = some { r with endCause := some .presetReached, holdCause := none } ∧
      t.1.vessels.get v = x ∧
      t.2 = [.releaseStorage sp, .releaseCompressor sp false, .overpressureTest sp, .overrunTest sp]) ∧
    (¬stops → (∀ q, x.reservation sp .current = some q → 0 < q.outstanding) →
      t.1.vessels.get v = x ∧ t.1.spots = s.spots ∧ t.2 = [.lookahead sp, .overrunTest sp]) ∧
    (∀ q, ¬stops → s.consumes sp = true → x.reservation sp .current = some q → q.outstanding = 0 →
      (∀ n, (∀ y ∈ x.reservations, y.spot = sp → y = q ∨ y = n) → n ∈ x.reservations → n.spot = sp → n.rank = .next →
        0 < n.outstanding →
        (t.1.vessels.get v).reservation sp .current = some { n with rank := .current } ∧
        (t.1.vessels.get v).reservation sp .next = none ∧ t.1.spots = s.spots ∧ t.2 = [.lookahead sp, .overrunTest sp]) ∧
      ((∀ y ∈ x.reservations, y.spot = sp → y.outstanding = 0) → (t.1.vessels.get v).hasAny sp = false ∧
        (s.stateOf sp = .transfer → t.1.stateOf sp = .paused .ullage ∧
          ((s.spotCfg.get sp).inService = true → (t.1.valve sp .lh).command = .toClose) ∧
          t.2 = [.startWait sp, .askFirst sp, .overpressureTest sp, .lookahead sp, .overrunTest sp]) ∧
        (s.stateOf sp = .pressurising → t.1.spots = s.spots ∧
          t.2 = [.askFirst sp, .startWait sp, .lookahead sp, .overrunTest sp]) ∧
        (s.stateOf sp = .paused .compressor ∨ s.stateOf sp = .awaitCompressor → t.1.spots = s.spots ∧
          t.2 = [.askFirst sp, .lookahead sp, .overrunTest sp])))) ∧
  (∀ (s : State) (sp : SpotId) (r : Record), s.recordOf sp = some r →
    let x := s.vessels.get r.order.vessel
    let limit := (s.spotCfg.get sp).ullageWaitLimit
    let t := s.react (.startWait sp)
    let due : Prop := s.compOf sp ≠ none ∧ (s.spots.get sp).ullageWait = none ∧
      (s.stateOf sp = .paused .ullage ∨ s.stateOf sp = .pressurising ∧ x.hasCurrent sp = false ∧ x.hasRequest sp = true)
    (due → limit ≠ 0 → t = (s.modSpot sp fun p => { p with ullageWait := some (seconds limit) }, [])) ∧
    (due → limit = 0 → s.stateOf sp = .paused .ullage →
      t = (s.modSpot sp fun p => { p with ullageWait := none }, [.releaseCompressor sp false])) ∧
    (due → limit = 0 → s.stateOf sp = .pressurising →
      t.1 = { s with spots := t.1.spots } ∧ s.entered t.1 sp (.paused .ullage) id ∧
      t.2 = [.releaseCompressor sp false, .overpressureTest sp]) ∧
    (¬due → t = (s, []))) ∧
  (∀ (s : State) (sp : SpotId) (r : Record), s.recordOf sp = some r →
    s.react (.releaseStorage sp) = (s.modVessel r.order.vessel fun x =>
      { x with
        committed := x.committed - outstandingSum (x.reservations.filter fun y => decide (y.spot = sp))
        reservations := x.reservations.filter fun y => !decide (y.spot = sp)
        requests := x.requests.filter fun y => !decide (y.spot = sp)
        remainders := x.remainders.set sp 0 },
      if (s.vessels.get r.order.vessel).hasAny sp || (s.vessels.get r.order.vessel).hasRequest sp then
        [.grantPass r.order.vessel] else [])) ∧
  (∀ (s : State) (sp : SpotId) (r : Record), s.recordOf sp = some r →
    let x := s.vessels.get r.order.vessel
    ((∀ q, s.stateOf sp = .transfer → x.reservation sp .current = some q → q.outstanding * 5 ≤ q.granted →
        x.hasNext sp = false → x.hasRequest sp = false → s.react (.lookahead sp) = s.requestBlock sp) ∧
      (s.stateOf sp ≠ .transfer ∨ x.hasNext sp = true ∨ x.hasRequest sp = true ∨ x.hasCurrent sp = false ∨
          (∃ q, x.reservation sp .current = some q ∧ q.granted < q.outstanding * 5) →
        s.react (.lookahead sp) = (s, []))) ∧
    (let exceeds : Prop := (∃ kg, r.order.mode = .preset kg) ∧ (s.spotCfg.get sp).overrunTolerance * 1000 < r.overrun
     (exceeds → r.overrunLatched = false →
      s.react (.overrunTest sp) = ((s.modSpot sp fun p =>
        { p with
          record := p.record.map fun r => { r with overrunLatched := true }
          retained := p.retained.map fun k => { k with record := { k.record with overrunLatched := true } } }).latchSpot sp
            .overrun, [])) ∧
     (¬exceeds ∨ r.overrunLatched = true → s.react (.overrunTest sp) = (s, []))))

/-- Sections 1.3, 3.2, 3.4, 4.2, 4.4, 4.5, 5.2 and 5.3: the grant pass serves the head of the pending list if high level is inactive and the
free ullage covers it, tells the spot and looks at the new head; the arbiter serves the head of the wait queue with the lowest-numbered IDLE compressor standing at its
direction, else the lowest-numbered IDLE one, and nothing during the site trip; the compressor so granted starts, or changes
over, or runs at once where its motor turns already, and after the grant the new head is looked at. A grant, a handover
included, sets the spot's ladder step to its floor; from AWAIT_COMPRESSOR a spot in phase LIQUID enters PRESSURISING with its
time limit, one in phase RECOVERY waits on, and one in PAUSED (COMPRESSOR) stays and is tested for TRANSFER. A block request asks for the block size, or
for what a preset has left if that is less. A spot in PRESSURISING or PAUSED (COMPRESSOR) enters TRANSFER exactly when its
compressor is in RUN_PUSH, it holds a current block and dp is at its ladder value; of the grants in PAUSED (COMPRESSOR) only
one that gives it a current block is a test for that. A released running compressor is handed to a head that wants its
direction, and otherwise stops (the orders of what a grant, a handover and an entry to PRESSURISING set off are the MODEL's
choice, log 2). -/
def Obligations.HeadsAreServedFirst : Prop :=
  (∀ (s : State) (v : VesselId) (q : BlockRequest) (rest : List BlockRequest), (s.vessels.get v).requests = q :: rest →
    (s.highLevel v = false → q.amount ≤ (s.vessels.get v).free → s.react (.grantPass v) = (s.modVessel v fun x =>
      { x with
        requests := rest
        committed := x.committed + q.amount
        reservations := x.reservations ++ [⟨q.spot, q.amount, q.amount, if x.hasAny q.spot then .next else .current⟩] },
      [.blockGranted q.spot, .grantPass v])) ∧
    (s.highLevel v = true ∨ (s.vessels.get v).free < q.amount → s.react (.grantPass v) = (s, []))) ∧
  (∀ (s : State) (v : VesselId), (s.vessels.get v).requests = [] → s.react (.grantPass v) = (s, [])) ∧
  (∀ (s : State) (e : QueueEntry) (rest : List QueueEntry), s.queue = e :: rest →
    (s.siteTrip.active = true ∨ s.noneIdle → s.react .arbiter = (s, [])) ∧
    (∀ c : CompId, s.siteTrip.active = false → (s.comps.get c).state = .idle →
      ((s.comps.get c).position = e.direction ∧
          (∀ b : CompId, b < c → ¬((s.comps.get b).state = .idle ∧ (s.comps.get b).position = e.direction)) ∨
        (∀ b : CompId, ¬((s.comps.get b).state = .idle ∧ (s.comps.get b).position = e.direction)) ∧
          ∀ b : CompId, b < c → (s.comps.get b).state ≠ .idle) →
      (s.react .arbiter).1.queue = rest ∧
      ((s.react .arbiter).1.comps.get c).assigned = some (e.spot, e.direction) ∧
      ((s.react .arbiter).1.comps.get c).commanded = e.direction ∧
      (let there : Bool := decide ((s.comps.get c).position = e.direction) || decide (s.provenOf c = some e.direction)
       let turns := s.reading (.comp c .running)
       (there = false → ((s.react .arbiter).1.comps.get c).state = .changeoverFromIdle ∧
         ((s.react .arbiter).1.comps.get c).timer = some (seconds (s.compCfg.get c).changeover)) ∧
       (there = true → turns = false → ((s.react .arbiter).1.comps.get c).state = .starting ∧
         ((s.react .arbiter).1.comps.get c).timer = some (seconds (s.compCfg.get c).runUp)) ∧
       (there = true → turns = true → ((s.react .arbiter).1.comps.get c).state = e.direction.runState ∧
         ((s.react .arbiter).1.comps.get c).timer = none) ∧
       (s.react .arbiter).2 = [.grantReached e.spot] ++ (if there && turns then [.runReached c] else []) ++ [.arbiter]) ∧
      (s.react .arbiter).1 = { s with comps := (s.react .arbiter).1.comps, queue := rest } ∧
      ∀ b, b ≠ c → (s.react .arbiter).1.comps.get b = s.comps.get b)) ∧
  (∀ (s : State) (sp : SpotId),
    let cfg := s.spotCfg.get sp
    let t := s.react (.grantReached sp)
    let floored : State := s.modSpot sp fun p => { p with driver := { p.driver with step := cfg.floorStep } }
    (t.1.spots.get sp).driver.step = cfg.floorStep ∧
    (s.stateOf sp = .awaitCompressor → s.inPhase sp .liquid = true →
      t.1 = { s with spots := t.1.spots } ∧
      floored.entered t.1 sp .pressurising (fun d => { d with pressurise := some (seconds cfg.pressuriseLimit) }) ∧
      t.2 = [.overpressureTest sp, .askFirst sp, .startWait sp, .transferTest sp]) ∧
    (s.stateOf sp = .awaitCompressor → s.inPhase sp .recovery = true → t = (floored, [])) ∧
    (s.stateOf sp = .paused .compressor → t = (floored, [.transferTest sp]))) ∧
  (∀ (s : State) (sp : SpotId) (r : Record), s.recordOf sp = some r →
    let v := r.order.vessel
    let left (kg : Nat) := kg - r.netMass / 1000 - (s.vessels.get v).currentOutstanding sp
    (∀ kg, r.order.mode = .preset kg → left kg = 0 → s.requestBlock sp = (s, [])) ∧
    (∀ amount, r.order.mode = .empty ∧ amount = r.order.block ∨
        (∃ kg, r.order.mode = .preset kg ∧ left kg ≠ 0 ∧ amount = min r.order.block (left kg)) →
      ((s.vessels.get v).requests = [] → s.highLevel v = false → amount ≤ (s.vessels.get v).free →
        s.requestBlock sp = (s.modVessel v fun x =>
          { x with
            committed := x.committed + amount
            reservations := x.reservations ++ [⟨sp, amount, amount, if x.hasAny sp then .next else .current⟩] },
          [.blockGranted sp])) ∧
      ((s.vessels.get v).requests ≠ [] ∨ s.highLevel v = true ∨ (s.vessels.get v).free < amount →
        s.requestBlock sp = (s.modVessel v fun x => { x with requests := x.requests ++ [⟨sp, amount⟩] }, []))) ∧
    (s.stateOf sp ∈ [SpotState.pressurising, .paused .ullage, .paused .compressor] ∨
        s.stateOf sp = .awaitCompressor ∧ r.phase = .liquid →
      s.react (.askFirst sp) =
        if (s.vessels.get v).hasCurrent sp || (s.vessels.get v).hasRequest sp then (s, []) else s.requestBlock sp)) ∧
  (∀ (s : State) (sp : SpotId) (r : Record), s.recordOf sp = some r →
    let ready : Prop := s.holdsRunPush sp = true ∧ (s.vessels.get r.order.vessel).hasCurrent sp = true ∧
      ∃ d, s.dp sp = some d ∧ (s.ladderValue (s.spots.get sp).driver.step : Int) ≤ d
    let t := s.react (.transferTest sp)
    (s.stateOf sp = .pressurising ∨ s.stateOf sp = .paused .compressor → ready →
      t.1.stateOf sp = .transfer ∧ t.2 = [.overpressureTest sp] ∧
      t.1.recordOf sp = some { r with
        holdCause := none, enteredTransfer := true
        startTimestamp := if r.enteredTransfer then r.startTimestamp else some s.clockValue } ∧
      (t.1.spots.get sp).driver.dwell = some (seconds (s.spotCfg.get sp).dwell) ∧ (t.1.spots.get sp).driver.dwellMass = 0 ∧
      (t.1.spots.get sp).driver.slips = 0 ∧ (t.1.spots.get sp).driver.voidRun = 0 ∧ (t.1.spots.get sp).ullageWait = none ∧
      (t.1.spots.get sp).driver.pressurise = none ∧
      ((s.spotCfg.get sp).inService = true → s.siteTrip.active = false → (t.1.valve sp .lh).command = .toOpen)) ∧
    (s.stateOf sp ≠ .pressurising ∧ s.stateOf sp ≠ .paused .compressor ∨ ¬ready → t = (s, [])) ∧
    (s.stateOf sp = .pressurising → s.react (.blockGranted sp) =
      (s.modSpot sp fun p => { p with ullageWait := none }, [.transferTest sp])) ∧
    (s.stateOf sp = .paused .ullage → s.compOf sp = none →
      (s.react (.blockGranted sp)).1.stateOf sp = .awaitCompressor ∧ (s.react (.blockGranted sp)).2 = [.arbiter] ∧
      (s.react (.blockGranted sp)).1.queue = s.queue ++ [⟨sp, .push, s.clockValue⟩]) ∧
    (s.stateOf sp = .paused .ullage → s.holdsRunPush sp = true →
      (s.react (.blockGranted sp)).1.stateOf sp = .transfer) ∧
    (s.stateOf sp = .paused .compressor → s.react (.blockGranted sp) =
      (s, if (s.vessels.get r.order.vessel).hasNext sp then [] else [.transferTest sp])) ∧
    (s.stateOf sp = .transfer ∨ s.stateOf sp = .awaitCompressor → s.react (.blockGranted sp) = (s, []))) ∧
  ∀ (s : State) (sp : SpotId) (c : CompId), s.compOf sp = some c →
    (∀ e rest, s.queue = e :: rest → (s.comps.get c).state = (match e.direction with | .push => .runPush | .pull => .runPull) →
      s.react (.releaseCompressor sp false) =
        (({ s with queue := rest } : State).modComp c fun x => { x with assigned := some (e.spot, e.direction) },
          [.grantReached e.spot, .runReached c, .arbiter])) ∧
    ((∀ e rest, s.queue = e :: rest →
        (s.comps.get c).state ≠ (match e.direction with | .push => .runPush | .pull => .runPull)) →
      s.react (.releaseCompressor sp false) = s.react (.releaseCompressor sp true)) ∧
    s.react (.releaseCompressor sp true) = (s.modComp c fun x =>
      { x with state := .stopping false, assigned := none, timer := some (seconds (s.compCfg.get c).runDown) }, [.arbiter])

/-- Sections 1.3, 3.4, 4.2 to 4.5, 4.7, 5.3, 5.6 and 5.8: CHANGEOVER_EXPIRY (its direction not proven) and RUN_UP_EXPIRY take a
compressor to FAULT, its assignment cleared, its timer stopped and COMPRESSOR_FAULT latched with its mark, and so does every
other entry to FAULT. Its holder then stands at the head of the wait queue and the arbiter acts: from PRESSURISING, and for
PULL from RECOVERY, in AWAIT_COMPRESSOR; from TRANSFER (LH closed) and from PAUSED for ullage (its wait stopped) in PAUSED
(COMPRESSOR); from that state, and with phase RECOVERY from AWAIT_COMPRESSOR, where it was. Its reservations and request stay.
A holder in SETTLING stays there without an entry. RUN_DOWN_EXPIRY takes a stopping one to IDLE, and the arbiter acts, which
with an empty queue is all; one that stops since a restart goes there when RUNNING turns inactive, and the arbiter acts. A
change of PUSH_PROVEN or PULL_PROVEN moves the position to the direction proven, and does nothing with both alike; the
commanded direction so proven takes a changeover from IDLE to STARTING, or through it to its RUN state while RUNNING is
active, and PULL takes one in place to RUN_PULL. Its entry to RUN_PUSH tests its holder for TRANSFER; its entry to RUN_PULL
takes a holder in AWAIT_COMPRESSOR with phase RECOVERY to RECOVERY with its time limit, and with its proving timer at or below
the target, or, with the car pressure channel in fault, straight to CLOSING with an incomplete recovery, as the end of
settling does in that fault with a recovery due and its compressor held. ULLAGE_WAIT_EXPIRY
releases the compressor of a spot that waits for ullage; from PRESSURISING the spot goes to PAUSED for ullage, its request
kept. (The orders of the reactions are the MODEL's choice, log 2; so is it that a recovery which ends at its entry latches
PRESSURE_CHANNEL where the start of that fault had latched it already and it was cleared since, log 43.) -/
def Obligations.CompressorAndUllageTimersExpire : Prop :=
  (∀ (s : State) (c : CompId) (k : CompId), s.powered = true →
      (∀ i : Instr,
        ((i = .changeoverExpiry c ∧ (s.comps.get c).state ∈ [CompState.changeoverFromIdle, .changeoverInPlace] ∧
            (s.comps.get c).position ≠ (s.comps.get c).commanded ∧ s.provenOf c ≠ some (s.comps.get c).commanded) ∨
          (i = .runUpExpiry c ∧ (s.comps.get c).state = .starting)) →
        (s.comps.get c).timer = some 0 → exec i s = .next (Reacted.settled (s, [.compressorFault c]))) ∧
      (∀ (i : Instr) (sp : SpotId),
        ((i = .changeoverExpiry c ∧ (s.comps.get c).state ∈ [CompState.changeoverFromIdle, .changeoverInPlace] ∧
            (s.comps.get c).position ≠ (s.comps.get c).commanded ∧ s.provenOf c ≠ some (s.comps.get c).commanded) ∨
          (i = .runUpExpiry c ∧ (s.comps.get c).state = .starting)) →
        (s.comps.get c).timer = some 0 → s.compOf sp = some c → s.noneIdle →
        (s.stateOf sp = .pressurising ∨ s.stateOf sp = .awaitCompressor ∨ s.stateOf sp = .paused .compressor ∨
          s.stateOf sp = .recovery) →
        ∃ t, exec i s = .next t ∧ (t.comps.get c).state = .fault ∧ (t.comps.get c).assigned = none ∧
          (t.comps.get c).timer = none ∧ t.latches.compressorFault.get c = true ∧
          t.stateOf sp = (if s.stateOf sp = .paused .compressor then .paused .compressor else .awaitCompressor) ∧
          t.queue = ⟨sp, if s.stateOf sp = .recovery ∨ s.stateOf sp = .awaitCompressor ∧ s.inPhase sp .recovery = true then
            .pull else .push, s.clockValue⟩ :: s.queue ∧
          (k ≠ c → t.comps.get k = s.comps.get k) ∧ s.onlyHoldings t sp) ∧
      ((s.comps.get c).state = .stopping false → (s.comps.get c).timer = some 0 →
        let idle : State := s.modComp c fun x => { x with state := .idle, assigned := none, timer := none }
        exec (.runDownExpiry c) s = .next (Reacted.settled (idle, [.arbiter])) ∧
        (s.queue = [] → exec (.runDownExpiry c) s = .next idle))) ∧
  (∀ (s : State) (c : CompId),
      let t := s.react (.compressorFault c)
      let faulted : State :=
        ({ s with latches := { s.latches with compressorFault := s.latches.compressorFault.set c true } } : State).modComp c
          fun x => { x with state := .fault, assigned := none, timer := none }
      ((s.comps.get c).assigned = none → t = (faulted, [])) ∧
      ∀ (sp : SpotId) (d : Direction), (s.comps.get c).assigned = some (sp, d) →
        (s.stateOf sp = .settling → t = (faulted, [])) ∧
        ∀ (after : SpotState) (wants : Direction), (s.stateOf sp, after, wants) ∈
            [(.pressurising, .awaitCompressor, .push), (.transfer, .paused .compressor, .push),
              (.paused .ullage, .paused .compressor, .push), (.paused .compressor, .paused .compressor, .push),
              (.awaitCompressor, .awaitCompressor, .pull), (.recovery, .awaitCompressor, Direction.pull)] →
          (s.stateOf sp = .awaitCompressor → s.inPhase sp .recovery = true) →
          t.1 = { faulted with spots := t.1.spots, queue := ⟨sp, wants, s.clockValue⟩ :: s.queue } ∧
          (after = s.stateOf sp → t.1.spots = s.spots) ∧ (after ≠ s.stateOf sp → s.entered t.1 sp after id) ∧
          t.2 = .arbiter :: (if s.stateOf sp = .transfer then [.overpressureTest sp] else [])) ∧
  (∀ (s : State) (c : CompId),
      let t := s.react (.runReached c)
      ((s.comps.get c).assigned = none → t = (s, [])) ∧
      ∀ (sp : SpotId) (d : Direction), (s.comps.get c).assigned = some (sp, d) →
        ((s.comps.get c).state = .runPush → t = (s, [.transferTest sp])) ∧
        ((s.comps.get c).state = .runPull → s.stateOf sp ≠ .awaitCompressor → t = (s, [])) ∧
        ∀ r, (s.comps.get c).state = .runPull → s.stateOf sp = .awaitCompressor → s.recordOf sp = some r →
          r.phase = .recovery →
          let cfg := s.spotCfg.get sp
          let car := s.analog.get (carChannel sp)
          (car.fault = false → t.1 = { s with spots := t.1.spots } ∧ t.2 = [.overpressureTest sp] ∧
            s.entered t.1 sp .recovery (fun d => { d with
              recoveryLimit := some (seconds (60 * cfg.recoveryLimit))
              recoveryProving := if s.atRecoveryTarget sp then some (seconds cfg.recoveryProving) else none })) ∧
          (car.fault = true → r.endCause ≠ some .aborted →
            t.1 = { s.latchSpot sp .pressureChannel with
              spots := t.1.spots, queue := s.queue.filter fun e => !decide (e.spot = sp) } ∧
            t.1.spotLatched sp .pressureChannel = true ∧
            t.2 = [.releaseStorage sp, .releaseCompressor sp false, .engineRun sp] ∧
            (s.modSpot sp fun p => { p with
              engine := .running ⟨.closeDown, s.closeDown.get sp, 0, false⟩
              record := some { r with recoveryIncomplete := true, recoveryEnd := car.reading.or r.recoveryEnd } }).entered
                t.1 sp .closing id)) ∧
  (∀ (s : State) (c : CompId),
      ((s.comps.get c).state = .stopping true → s.react (.functionChanged (.comp c .running) false) =
        (s.modComp c fun x => { x with state := .idle, assigned := none, timer := none }, [.arbiter])) ∧
      ∀ (f : CompFn) (b : Bool), f ∈ [CompFn.pushProven, .pullProven] →
        let t := s.react (.functionChanged (.comp c f) b)
        (s.reading (.comp c .pushProven) = s.reading (.comp c .pullProven) → t = (s, [])) ∧
        ∀ d : Direction, s.reading (.comp c .pushProven) = decide (d = .push) →
          s.reading (.comp c .pullProven) = decide (d = .pull) →
          let moved : State := s.modComp c fun x => { x with position := d }
          ((s.comps.get c).state ∉ [CompState.changeoverFromIdle, .changeoverInPlace] ∨
              (s.comps.get c).state = .changeoverFromIdle ∧ d ≠ (s.comps.get c).commanded ∨
              (s.comps.get c).state = .changeoverInPlace ∧ d = .push → t = (moved, [])) ∧
          (∀ sp g, (s.comps.get c).state = .changeoverFromIdle → d = (s.comps.get c).commanded →
            (s.comps.get c).assigned = some (sp, g) →
            (s.reading (.comp c .running) = false →
              t = (moved.modComp c fun x => { x with state := .starting, timer := some (seconds (s.compCfg.get c).runUp) }, [])) ∧
            (s.reading (.comp c .running) = true →
              t = (moved.modComp c fun x => { x with state := g.runState, timer := none }, [.runReached c]))) ∧
          ∀ sp, (s.comps.get c).state = .changeoverInPlace → d = .pull → (s.comps.get c).assigned = some (sp, .pull) →
            t = (moved.modComp c fun x => { x with state := .runPull, timer := none }, [.runReached c])) ∧
  (∀ (s : State) (sp : SpotId) (r : Record) (c : CompId) (i : Instr), s.powered = true → s.recordOf sp = some r →
      r.recoveryDue = true → s.compOf sp = some c → (s.analog.get (carChannel sp)).fault = true → s.noOtherWaits sp →
      s.firstStepWaits sp (s.closeDown.get sp) = true →
      (i = .settleTimerExpiry sp ∧ (s.spots.get sp).driver.settle = some 0 ∨
        i = .settleLimitExpiry sp ∧ (s.spots.get sp).driver.settleLimit = some 0) →
      ∃ t, exec i s = .next t ∧ t.stateOf sp = .closing ∧
        (t.spots.get sp).engine = .running ⟨.closeDown, s.closeDown.get sp, 1, true⟩ ∧
        t.recordOf sp = some { r with
          phase := .recovery, holdCause := none, recoveryIncomplete := true
          recoveryEnd := ((s.analog.get (carChannel sp)).reading).or r.recoveryEnd } ∧
        t.spotLatched sp .pressureChannel = true ∧ s.gaveUp t sp ∧ s.onlyHoldings t sp) ∧
  (∀ (s : State) (sp : SpotId) (c : CompId), s.powered = true → (s.spots.get sp).ullageWait = some 0 →
      (s.stateOf sp = .paused .ullage → exec (.ullageWaitExpiry sp) s = .next (Reacted.settled
        (s.modSpot sp fun p => { p with ullageWait := none }, [.releaseCompressor sp false]))) ∧
      (s.stateOf sp = .pressurising → ∃ u : State,
        exec (.ullageWaitExpiry sp) s =
          .next (Reacted.settled (u, [.releaseCompressor sp false, .overpressureTest sp])) ∧
        u = { s with spots := u.spots } ∧ s.entered u sp (.paused .ullage) id) ∧
      (s.stateOf sp = .pressurising ∨ s.stateOf sp = .paused .ullage → s.compOf sp = some c → s.queue = [] →
      s.pressureSafe sp = true →
      ∃ t, exec (.ullageWaitExpiry sp) s = .next t ∧ t.stateOf sp = .paused .ullage ∧ (t.spots.get sp).ullageWait = none ∧
        (t.comps.get c).state = .stopping false ∧ (t.comps.get c).assigned = none ∧ t.vessels = s.vessels ∧
        t.latches = s.latches ∧ s.onlyHoldings t sp))

/-! ### The transfer driver and the other timers of a spot -/

/-- R98, with R95 and R96 (section 5.2): a dwell that expires decides the step by slips, then by yield, then holds it; at step 8
a short dwell sets LOW_YIELD once per record; a new dwell starts with its counts at 0, and a compressor running for the spot
has the new table value. HALF_DWELL sets the second-half indication once half the dwell has run; that it does so however much
later it is taken is the MODEL's choice (log 13). -/
def Obligations.DwellExpiryDecidesTheStep : Prop :=
  ∀ (s : State) (sp : SpotId), s.powered = true →
    (∀ n, (s.spots.get sp).driver.dwell = some n → 2 * n ≤ seconds (s.spotCfg.get sp).dwell →
      exec (.halfDwell sp) s = .next (s.modSpot sp fun p => { p with driver := { p.driver with secondHalf := true } })) ∧
    ((s.spots.get sp).driver.dwell = some 0 → ∃ t, exec (.dwellExpiry sp) s = .next t ∧
      t = { s with spots := t.spots, latches := t.latches } ∧ (∀ q, q ≠ sp → t.spots.get q = s.spots.get q) ∧
      (let d := (s.spots.get sp).driver
       let cfg := s.spotCfg.get sp
       let short := decide (d.dwellMass < cfg.targetFlow * cfg.dwell * 1000 / 60)
       (t.spots.get sp).driver =
         { d with
           step := if cfg.slipThreshold < d.slips then max cfg.floorStep (d.step - 1)
             else if short = true ∧ d.step < 8 then d.step + 1 else d.step
           lowYield := d.lowYield || (!decide (cfg.slipThreshold < d.slips) && short && decide (8 ≤ d.step))
           dwell := some (seconds cfg.dwell), secondHalf := false, dwellMass := 0, slips := 0 } ∧
       (cfg.slipThreshold < d.slips ∨ short = false ∨ d.step < 8 ∨ d.lowYield = true → t.latches = s.latches) ∧
       (¬(cfg.slipThreshold < d.slips) → short = true → 8 ≤ d.step → d.lowYield = false →
         t.spotLatched sp .lowYield = true)) ∧
      ∀ c d, (s.comps.get c).state = .runPush → (s.comps.get c).assigned = some (sp, d) →
        t.setpoint c = some (s.ladderValue (t.spots.get sp).driver.step))

/-- Sections 1.2, 1.3, 4.2, 5.6, 5.8, 6.2, 9.2, 9.4 and 9.6: the end of settling without a recovery due, and the end of a
recovery by its proving timer (complete), its time limit or STOP (incomplete; also while it waits or is held), take the spot
to CLOSING, its close-down list at the first step; a recovery records the reading of the car pressure. ABORT of a recovery
does so by the CLOSED CHECK, and so does the end of settling of a record with end cause ABORTED; with all five valves showing
CLOSED that check is complete at once, and the record has the outcome of a completed close-down (decided before the window in
progress is converted, the MODEL's choice, log 29). Settling with a recovery due and no compressor held queues for PULL; with
one held it is changed over in place and the spot enters RECOVERY, where a compressor that stands at PULL already runs at once
(log 19); with the car pressure channel in fault then, see CompressorAndUllageTimersExpire. The entry to CLOSING gives up the
storage, then the compressor, and then the list runs (this order is the MODEL's choice, log 2). -/
def Obligations.SettlingAndRecoveryEndInCloseDown : Prop :=
  ∀ (s : State) (sp : SpotId) (r : Record), s.powered = true → s.recordOf sp = some r → s.stateOf sp ≠ .tripped →
    let recovers : Prop := s.stateOf sp = .recovery ∨ s.stateOf sp ∈ [SpotState.awaitCompressor, .held] ∧ r.phase = .recovery
    (∀ c : Instr, s.noOtherWaits sp → s.firstStepWaits sp (s.closeDown.get sp) = true → r.endCause ≠ some .aborted →
      ((c = .settleTimerExpiry sp ∧ (s.spots.get sp).driver.settle = some 0 ∧ r.recoveryDue = false) ∨
        (c = .settleLimitExpiry sp ∧ (s.spots.get sp).driver.settleLimit = some 0 ∧ r.recoveryDue = false) ∨
        (c = .recoveryProvingExpiry sp ∧ (s.spots.get sp).driver.recoveryProving = some 0) ∨
        (c = .recoveryLimitExpiry sp ∧ (s.spots.get sp).driver.recoveryLimit = some 0) ∨
        (∃ l tag, c = .stop l tag (itemBody sp) ∧ s.takes l = true ∧ recovers)) →
      ∃ t r', exec c s = .next t ∧ t.stateOf sp = .closing ∧
        (t.spots.get sp).engine = .running ⟨.closeDown, s.closeDown.get sp, 1, true⟩ ∧ t.recordOf sp = some r' ∧
        r'.endCause = r.endCause ∧ r'.netMass = r.netMass ∧ r'.holdCause = none ∧
        (c ≠ .settleTimerExpiry sp → c ≠ .settleLimitExpiry sp →
          r'.recoveryIncomplete = decide (c ≠ .recoveryProvingExpiry sp) ∧
          ∀ x, (s.analog.get (carChannel sp)).reading = some x → r'.recoveryEnd = some x) ∧
        s.gaveUp t sp ∧ s.onlyHoldings t sp) ∧
    (∀ c : Instr, s.noOtherWaits sp → r.endCause = some .aborted →
      ((c = .settleTimerExpiry sp ∧ (s.spots.get sp).driver.settle = some 0) ∨
        (c = .settleLimitExpiry sp ∧ (s.spots.get sp).driver.settleLimit = some 0)) →
      ∃ t, exec c s = .next t ∧ ((s.spotCfg.get sp).inService = true → t.allCommandedClose sp) ∧ s.gaveUp t sp ∧
        (s.allClosed sp = false → t.stateOf sp = .closing ∧ (t.spots.get sp).engine = .closedCheck ∧
          t.recordOf sp = some { r with holdCause := none } ∧ s.onlyHoldings t sp) ∧
        (s.allClosed sp = true → s.inPending sp = false →
          (t.spots.get sp).engine = .idle ∧
          (r.enteredTransfer = false → r.netMass = 0 →
            t.stateOf sp = .vacant ∧ t.recordOf sp = none ∧ t.tickets = s.tickets ∧ t.pendingOrder = s.pendingOrder) ∧
          (r.enteredTransfer = true ∨ 0 < r.netMass →
            (s.pendingOrder = [] → s.tickets.length < 32 → ∃ x, t.tickets = s.tickets ++ [x] ∧ x.spot = sp ∧
              x.number = s.ticketCounter ∧ x.endTimestamp = s.clockValue ∧ x.endCause = some .aborted ∧
              t.recordOf sp = none ∧ t.stateOf sp = (if s.allUnhealthy sp then .vacant else .complete)) ∧
            (s.pendingOrder ≠ [] ∨ 32 ≤ s.tickets.length → t.stateOf sp = .closing ∧ t.tickets = s.tickets ∧
              t.pendingOrder = s.pendingOrder ++ [⟨sp, true⟩] ∧
              t.recordOf sp = some
                { r with holdCause := none, ticketPending := true, endTimestamp := some s.clockValue })))) ∧
    (∀ (l : Link) (tag : Byte), s.takes l = true → s.noOtherWaits sp → s.allClosed sp = false → recovers →
      ∃ t r', exec (.abort l tag (itemBody sp)) s = .next t ∧ t.replyCode l = some .done ∧ t.stateOf sp = .closing ∧
        (t.spots.get sp).engine = .closedCheck ∧ t.recordOf sp = some r' ∧ r'.endCause = some .aborted ∧
        r'.recoveryIncomplete = true ∧
        (∀ x, (s.analog.get (carChannel sp)).reading = some x → r'.recoveryEnd = some x) ∧
        ((s.spotCfg.get sp).inService = true → t.allCommandedClose sp) ∧ s.gaveUp t sp ∧ s.onlyHoldings t sp) ∧
    (∀ c : Instr, r.recoveryDue = true →
      ((c = .settleTimerExpiry sp ∧ (s.spots.get sp).driver.settle = some 0) ∨
        (c = .settleLimitExpiry sp ∧ (s.spots.get sp).driver.settleLimit = some 0)) →
      (s.compOf sp = none → s.noneIdle →
        ∃ t, exec c s = .next t ∧ t.stateOf sp = .awaitCompressor ∧
          t.recordOf sp = some { r with phase := .recovery, holdCause := none } ∧
          t.queue = s.queue ++ [⟨sp, .pull, s.clockValue⟩] ∧ s.onlyHoldings t sp) ∧
      ∀ k, s.compOf sp = some k → (s.analog.get (carChannel sp)).fault = false → s.pressureSafe sp = true →
        ∃ t, exec c s = .next t ∧ t.stateOf sp = .recovery ∧
          t.recordOf sp = some { r with phase := .recovery, holdCause := none } ∧
          (t.spots.get sp).driver.recoveryLimit = some (seconds (60 * (s.spotCfg.get sp).recoveryLimit)) ∧
          (t.spots.get sp).driver.recoveryProving =
            (if s.atRecoveryTarget sp then some (seconds (s.spotCfg.get sp).recoveryProving) else none) ∧
          (t.comps.get k).commanded = .pull ∧ (t.comps.get k).assigned = some (sp, .pull) ∧
          (if (s.comps.get k).position = .pull ∨ s.provenOf k = some .pull then
              (t.comps.get k).state = .runPull ∧ (t.comps.get k).timer = none
            else (t.comps.get k).state = .changeoverInPlace ∧
              (t.comps.get k).timer = some (seconds (s.compCfg.get k).changeover)) ∧
          t.queue = s.queue ∧ t.vessels = s.vessels ∧ s.onlyHoldings t sp) ∧
    (∀ c : Instr, r.endCause ≠ some .aborted →
      let closes (incomplete : Option Bool) (u : State) : Prop :=
        u = { s with spots := u.spots, links := u.links, queue := s.queue.filter fun e => !decide (e.spot = sp) } ∧
        (s.modSpot sp fun p => { p with
          engine := .running ⟨.closeDown, s.closeDown.get sp, 0, false⟩
          record := some (match incomplete with
            | some b => { r with
                recoveryIncomplete := b, recoveryEnd := ((s.analog.get (carChannel sp)).reading).or r.recoveryEnd }
            | none => r) }).entered u sp .closing id
      let gives : List Reaction := [.releaseStorage sp, .releaseCompressor sp false, .engineRun sp]
      ((c = .settleTimerExpiry sp ∧ (s.spots.get sp).driver.settle = some 0 ∨
          c = .settleLimitExpiry sp ∧ (s.spots.get sp).driver.settleLimit = some 0) → r.recoveryDue = false →
        ∃ u, exec c s = .next (Reacted.settled (u, gives)) ∧ u.links = s.links ∧ closes none u) ∧
      (c = .recoveryProvingExpiry sp → (s.spots.get sp).driver.recoveryProving = some 0 →
        ∃ u, exec c s = .next (Reacted.settled (u, gives)) ∧ u.links = s.links ∧ closes (some false) u) ∧
      (c = .recoveryLimitExpiry sp → (s.spots.get sp).driver.recoveryLimit = some 0 →
        ∃ u, exec c s = .next (Reacted.settled (u, gives)) ∧ u.links = s.links ∧ closes (some true) u) ∧
      ∀ l tag, c = .stop l tag (itemBody sp) → s.takes l = true → recovers →
        ∃ u, exec c s = .next ((Reacted.settled (u, gives)).replied l tag 0x13 .done) ∧ u.links = (s.taken l).links ∧
          closes (some true) u)

/-- Sections 6.1 and 6.2: a stroke that times out, or a disagreement that expires, sets the valve's fault indication and
latches VALVE_FAULT; a CLOSE in a state that does not trip does nothing more. An OPEN of a line-up step stops the list at that
step and holds the spot with cause VALVE, which keeps the faulted valve; so does, without a list, an OPEN of LH in TRANSFER.
An OPEN of a close-down step has its valve commanded CLOSE, and the list goes on; with any other owner, an abandoned list
among them, it does nothing but let a list that waits for no more than it complete. -/
def Obligations.ValveTimersSetTheFault : Prop :=
  ∀ (s : State) (sp : SpotId) (v : Valve), s.powered = true →
    (∀ k, (s.valve sp v).stroke = some k → k.remaining = 0 →
      let engine := (s.spots.get sp).engine
      let failed : State := (s.modSpot sp fun p => { p with valves := p.valves.modify (valveIndex v) fun u =>
        { u with stroke := none, fault := true } }).latchSpot sp .valveFault
      (k.target = .toClose → (s.stateOf sp).trippable = false → exec (.strokeTimeout sp v) s = .next failed) ∧
      (k.target = .toOpen → k.owner ∈ [StrokeOwner.valveCommand, .abandonedList, .deEnergise] →
        exec (.strokeTimeout sp v) s = .next (Reacted.settled (failed, [.engineRun sp])) ∧
        (engine = .idle ∨ (∃ r i, engine = .stopped r i) ∨ engine = .closedCheck ∧ s.allClosed sp = false ∨
            (∃ r, engine = .running r ∧ s.stepProven sp r = false) →
          exec (.strokeTimeout sp v) s = .next failed)) ∧
      ∀ i, k.target = .toOpen → k.owner = .listStep i →
        (engine = .idle ∨ engine = .closedCheck ∨ (∃ r j, engine = .stopped r j) →
          exec (.strokeTimeout sp v) s = .next failed) ∧
        (∀ r, engine = .running r → r.kind ≠ .closeDown → s.stateOf sp = .liningUp → s.noOtherWaits sp →
          s.pressureSafe sp = true →
          ∃ t, exec (.strokeTimeout sp v) s = .next t ∧ t.stateOf sp = .held ∧ (t.spots.get sp).faultedValve = some v ∧
            (t.spots.get sp).engine = .stopped r i ∧ t.valve sp v = { s.valve sp v with stroke := none, fault := true } ∧
            (∀ o, o ≠ v → t.valve sp o = s.valve sp o) ∧
            t.recordOf sp = (s.recordOf sp).map (fun r => { r with holdCause := some .valve }) ∧
            t.spotLatched sp .valveFault = true ∧ s.gaveUp t sp ∧ s.onlyHoldings t sp) ∧
        ∀ steps issued waiting, engine = .running ⟨.closeDown, steps, issued, waiting⟩ → (s.spotCfg.get sp).inService = true →
          (s.valve sp v).command = .toOpen →
          let u : State := (s.modSpot sp fun p => { p with
            valves := p.valves.set (valveIndex v) ⟨.toClose, if s.shows sp v .toClose then none
              else some ⟨.toClose, s.strokeTime sp v, .listStep i⟩, none, false⟩
            engine := .running ⟨.closeDown, steps, issued, waiting && decide (issued ≠ i + 1)⟩ }).latchSpot sp .valveFault
          exec (.strokeTimeout sp v) s = .next (Reacted.settled (u, [.engineRun sp])) ∧
          (s.stepProven sp ⟨.closeDown, steps, issued, waiting && decide (issued ≠ i + 1)⟩ = false →
            exec (.strokeTimeout sp v) s = .next u) ∧
          ∀ m, issued = i + 1 → steps[issued]? = some m → m.wait = true → s.shows sp m.valve m.action = false →
            s.siteTrip.active = false → s.stateOf sp = .closing →
            ∃ t, exec (.strokeTimeout sp v) s = .next t ∧ t.stateOf sp = .closing ∧ t.recordOf sp = s.recordOf sp ∧
              (t.spots.get sp).engine = .running ⟨.closeDown, steps, issued + 1, true⟩ ∧
              (t.valve sp m.valve).command = m.action ∧ (m.valve ≠ v → t.valve sp v = u.valve sp v) ∧
              t.spotLatched sp .valveFault = true ∧ s.onlySpot { t with latches := s.latches } sp) ∧
    ((s.valve sp v).disagreement = some 0 →
      ((s.valve sp v).command = .toOpen ∧ s.stateOf sp ≠ .transfer ∨
        (s.valve sp v).command = .toClose ∧ (s.stateOf sp).trippable = false) →
      exec (.disagreementExpiry sp v) s = .next ((s.modSpot sp fun p =>
        { p with valves := p.valves.modify (valveIndex v) fun u => { u with disagreement := none, fault := true } }).latchSpot
          sp .valveFault)) ∧
    (∀ c : Instr, s.stateOf sp = .transfer → s.noOtherWaits sp → s.pressureSafe sp = true →
      ((c = .strokeTimeout sp v ∧ ∃ k, (s.valve sp v).stroke = some k ∧ k.target = .toOpen ∧ k.owner = .lh ∧ k.remaining = 0) ∨
        (c = .disagreementExpiry sp v ∧ (s.valve sp v).disagreement = some 0 ∧ (s.valve sp v).command = .toOpen)) →
      ∃ t, exec c s = .next t ∧ t.stateOf sp = .held ∧ (t.spots.get sp).faultedValve = some v ∧
        t.recordOf sp = (s.recordOf sp).map (fun r => { r with holdCause := some .valve }) ∧
        t.spotLatched sp .valveFault = true ∧ s.gaveUp t sp ∧ s.onlyHoldings t sp)

/-! ### Requests that are not well formed or not allowed -/

/-- Sections 10.2, 6.2, 7.2, 7.4, 10.6 and 11.1: a request with a body of the wrong length, or with a spot, vessel, compressor
or input section that does not exist, is answered REFUSED_FIELD; those taken from the seat holder, from the other link,
REFUSED_SEAT; the supervise requests, from a link not authenticated, REFUSED_AUTH (BYPASS SET and BYPASS END are judged so
before their spot). After the authentication check a CONFIGURE with a product, line or analog index that does not exist or a
record out of range, and a LIST LOAD with a list code other than 1 and 2, are REFUSED_FIELD, and so are lists of none or more
than 16 steps, or with a step that names LH or no valve. None changes anything else. Which numbers of a body are judged before
the authentication check, as routing or shape (the target code and the list index of CONFIGURE among them), and which after it
is the MODEL's choice (log 10), and that a step byte's other bits are not looked at is too (log 9). -/
def Obligations.ShapeSeatAndClassAreChecked : Prop :=
  ∀ (s : State) (l : Link) (tag : Byte) (body : List Byte) (sp : SpotId), s.takes l = true →
    let badSteps (steps : List Byte) : Prop :=
      steps = [] ∨ 16 < steps.length ∨ ∃ b ∈ steps, b.toNat % 8 ∉ [1, 2, 3, 4]
    (body.length ≠ 1 ∨ oneBased 8 (field body 0 1) = none →
      ∀ (f : Link → Byte → List Byte → Instr) (kind : Byte),
        (f, kind) ∈ [(Instr.readSpot, (0x02 : Byte)), (.readSnapshot, 0x07), (.listClear, 0x11), (.start, 0x12), (.stop, 0x13),
          (.abort, 0x14), (.hold, 0x15), (.resume, 0x16), (.spotReset, 0x17), (.spotTripReset, 0x18), (.seatTake, 0x1A),
          (.seatYield, 0x1B)] →
        exec (f l tag body) s = .next ((s.taken l).replied l tag kind .refusedField)) ∧
    (∀ (f : Link → Byte → List Byte → Instr) (kind : Byte) (n : Nat),
      (f, kind, n) ∈ [(Instr.readStatus, (0x01 : Byte), 0), (.readVessel, 0x03, 1), (.readCompressor, 0x04, 1),
        (.readInputs, 0x05, 1), (.readTicket, 0x06, 0), (.readConfig, 0x08, 2), (.valveCommand, 0x19, 3),
        (.compressorReset, 0x1C, 1), (.tankUllage, 0x1D, 5), (.releaseTicket, 0x1E, 4), (.clearLatches, 0x1F, 5),
        (.setMask, 0x20, 4), (.siteTrip, 0x21, 0), (.bypassSet, 0x32, 4), (.bypassEnd, 0x33, 2), (.compressorService, 0x34, 2),
        (.siteTripReset, 0x35, 0), (.setClock, 0x36, 4), (.lockMetrology, 0x37, 0), (.restart, 0x38, 0),
        (.authenticate, 0x40, 4), (.deauthenticate, 0x41, 0)] → body.length ≠ n →
      exec (f l tag body) s = .next ((s.taken l).replied l tag kind .refusedField)) ∧
    (∀ (f : Link → Byte → List Byte → Instr) (kind : Byte) (items : Nat),
      (f, kind, items) ∈ [(Instr.readVessel, (0x03 : Byte), 4), (.readCompressor, 0x04, 3), (.readInputs, 0x05, 15),
        (.carOrder, 0x10, 8), (.valveCommand, 0x19, 8), (.compressorReset, 0x1C, 3), (.tankUllage, 0x1D, 4),
        (.listLoad, 0x31, 8), (.compressorService, 0x34, 3)] → field body 0 1 < 1 ∨ items < field body 0 1 →
      exec (f l tag body) s = .next ((s.taken l).replied l tag kind .refusedField)) ∧
    ((s.spots.get sp).seat ≠ l →
      (∀ (f : Link → Byte → List Byte → Instr) (kind : Byte),
        (f, kind) ∈ [(Instr.listClear, (0x11 : Byte)), (.start, 0x12), (.resume, 0x16), (.spotReset, 0x17),
          (.spotTripReset, 0x18), (.seatYield, 0x1B)] →
        exec (f l tag (itemBody sp)) s = .next ((s.taken l).replied l tag kind .refusedSeat)) ∧
      (field body 0 1 = sp.val + 1 → orderShape body = true →
        exec (.carOrder l tag body) s = .next ((s.taken l).replied l tag 0x10 .refusedSeat)) ∧
      (field body 0 1 = sp.val + 1 → body.length = 3 →
        exec (.valveCommand l tag body) s = .next ((s.taken l).replied l tag 0x19 .refusedSeat))) ∧
    ((s.link l).authenticated = false →
      (∀ (f : Link → Byte → List Byte → Instr) (kind : Byte) (n : Nat),
        (f, kind, n) ∈ [(Instr.bypassSet, (0x32 : Byte), 4), (.bypassEnd, 0x33, 2), (.siteTripReset, 0x35, 0),
          (.setClock, 0x36, 4), (.lockMetrology, 0x37, 0), (.restart, 0x38, 0)] → body.length = n →
        exec (f l tag body) s = .next ((s.taken l).replied l tag kind .refusedAuth)) ∧
      (configShape body = true → exec (.configure l tag body) s = .next ((s.taken l).replied l tag 0x30 .refusedAuth)) ∧
      (field body 0 1 = sp.val + 1 → listShape body = true →
        exec (.listLoad l tag body) s = .next ((s.taken l).replied l tag 0x31 .refusedAuth))) ∧
    (orderShape body = false → exec (.carOrder l tag body) s = .next ((s.taken l).replied l tag 0x10 .refusedField)) ∧
    (configShape body = false → exec (.configure l tag body) s = .next ((s.taken l).replied l tag 0x30 .refusedField)) ∧
    (listShape body = false → exec (.listLoad l tag body) s = .next ((s.taken l).replied l tag 0x31 .refusedField)) ∧
    ((s.link l).authenticated = true →
      (configShape body = true →
        let target := field body 0 1
        let index := field body 1 1
        let low := signed16 (field body 2 2)
        let high := signed16 (field body 4 2)
        target = 1 ∧ (index ≠ 0 ∨ (readUnit (body.drop 2)).inRange = false) ∨
          target = 2 ∧ (1 < field body 2 1 ∨ 1 < field body 24 1 ∨ ∀ a b, (readSpot (body.drop 2) a b).inRange = false) ∨
          target = 3 ∧ (index < 1 ∨ 8 < index ∨ 1 < field body 2 1 ∨ ∀ a, (readProduct (body.drop 2) a).inRange = false) ∨
          target = 4 ∧ (1 < field body 2 1 ∨ field body 3 2 < 30 ∨ 3600 < field body 3 2) ∨
          target = 5 ∧ (field body 2 1 < 5 ∨ 60 < field body 2 1 ∨ field body 3 1 < 5 ∨ 120 < field body 3 1 ∨
            field body 4 1 < 5 ∨ 60 < field body 4 1) ∨
          target = 6 ∧ (index < 1 ∨ 160 < index ∨ 156 < field body 2 1 ∨ 1 < field body 3 1 ∨
            field body 4 2 ∉ [0, 25, 50, 100, 200, 400, 800, 1600] ∨ 3 < field body 6 1) ∨
          target = 7 ∧ badSteps (body.drop 3) ∨
          target = 8 ∧ (field body 2 1 < 1 ∨ 247 < field body 2 1 ∨ field body 3 1 < 1 ∨ 4 < field body 3 1) ∨
          target = 9 ∧ (index < 1 ∨ 20 < index ∨ high ≤ low ∨ index ≤ 8 ∧ (low < -1000 ∨ 1000 < high) ∨
            8 < index ∧ (low < -100 ∨ 5000 < high)) →
        exec (.configure l tag body) s = .next ((s.taken l).replied l tag 0x30 .refusedField)) ∧
      (field body 0 1 = sp.val + 1 → listShape body = true → field body 1 1 ∉ [1, 2] ∨ badSteps (body.drop 3) →
        exec (.listLoad l tag body) s = .next ((s.taken l).replied l tag 0x31 .refusedField)))
end

