-- ==== Sys2Proof/Laws/Bank.lean ====
section
/-! SUPPORT. Reading a bank after each of its operations. -/

namespace Sys2Proof

namespace Bank

variable {n : Nat} {α β : Type}

@[simp] theorem get_fill (a : α) (i : Fin n) : (fill n a).get i = a := by simp [fill, get]

@[simp] theorem get_ofFn (f : Fin n → α) (i : Fin n) : (ofFn f).get i = f i := by simp [ofFn, get]

@[simp] theorem get_map (b : Bank n α) (f : α → β) (i : Fin n) : (b.map f).get i = f (b.get i) := by simp [map, get]

@[simp] theorem get_set_same (b : Bank n α) (i : Fin n) (a : α) : (b.set i a).get i = a := by simp [set, get]

theorem get_set (b : Bank n α) (i j : Fin n) (a : α) : (b.set i a).get j = if i = j then a else b.get j := by
  simp only [set, get, List.getElem_set, Fin.ext_iff]

theorem get_set_ne (b : Bank n α) {i j : Fin n} (a : α) (h : i ≠ j) : (b.set i a).get j = b.get j := by
  rw [get_set, if_neg h]

@[simp] theorem get_modify_same (b : Bank n α) (i : Fin n) (f : α → α) : (b.modify i f).get i = f (b.get i) := by
  simp [modify]

theorem get_modify (b : Bank n α) (i j : Fin n) (f : α → α) :
    (b.modify i f).get j = if i = j then f (b.get j) else b.get j := by
  rw [modify, get_set]
  split
  · rename_i h; rw [h]
  · rfl

theorem get_modify_ne (b : Bank n α) {i j : Fin n} (f : α → α) (h : i ≠ j) : (b.modify i f).get j = b.get j := by
  rw [get_modify, if_neg h]

/-- Two banks that read alike everywhere are the same bank. -/
theorem ext_get {a b : Bank n α} (h : ∀ i, a.get i = b.get i) : a = b := by
  have hc : a.cells = b.cells :=
    List.ext_getElem (a.size_eq.trans b.size_eq.symm) fun i h₁ _ => h ⟨i, a.size_eq ▸ h₁⟩
  cases a; cases b; cases hc; rfl

/-- What holds of every thing of a bank holds of it after one thing is changed, if the change keeps it. -/
theorem forall_modify {b : Bank n α} {P : α → Prop} (i : Fin n) {f : α → α} (hf : ∀ a, P a → P (f a))
    (h : ∀ j, P (b.get j)) (j : Fin n) : P ((b.modify i f).get j) := by
  rw [get_modify]
  split
  · exact hf _ (h j)
  · exact h j

/-- A test that some thing of a bank meets. -/
theorem any_eq_true {b : Bank n α} {p : α → Bool} : b.any p = true ↔ ∃ i, p (b.get i) = true := by
  rw [any, List.any_eq_true]
  constructor
  · rintro ⟨x, hx, hp⟩
    obtain ⟨i, hi, rfl⟩ := List.getElem_of_mem hx
    exact ⟨⟨i, b.size_eq ▸ hi⟩, hp⟩
  · rintro ⟨i, hp⟩
    exact ⟨_, List.getElem_mem _, hp⟩

end Bank

end Sys2Proof
end

