-- ==== Sys2Proof/Laws/State.lean ====
section
/-! SUPPORT. Reads after the elementary updates of the state: for each update, every field it leaves alone. -/

namespace Sys2Proof.Machine

variable (s : State)

/-! ### `State.modSpot` -/

@[simp] theorem State.modSpot_powered (sp : SpotId) (f : Spot → Spot) : (s.modSpot sp f).powered = s.powered := rfl
@[simp] theorem State.modSpot_unit (sp : SpotId) (f : Spot → Spot) : (s.modSpot sp f).unit = s.unit := rfl
@[simp] theorem State.modSpot_spotCfg (sp : SpotId) (f : Spot → Spot) : (s.modSpot sp f).spotCfg = s.spotCfg := rfl
@[simp] theorem State.modSpot_products (sp : SpotId) (f : Spot → Spot) : (s.modSpot sp f).products = s.products := rfl
@[simp] theorem State.modSpot_vesselCfg (sp : SpotId) (f : Spot → Spot) : (s.modSpot sp f).vesselCfg = s.vesselCfg := rfl
@[simp] theorem State.modSpot_compCfg (sp : SpotId) (f : Spot → Spot) : (s.modSpot sp f).compCfg = s.compCfg := rfl
@[simp] theorem State.modSpot_compService (sp : SpotId) (f : Spot → Spot) : (s.modSpot sp f).compService = s.compService := rfl
@[simp] theorem State.modSpot_lineCfg (sp : SpotId) (f : Spot → Spot) : (s.modSpot sp f).lineCfg = s.lineCfg := rfl
@[simp] theorem State.modSpot_lineUp (sp : SpotId) (f : Spot → Spot) : (s.modSpot sp f).lineUp = s.lineUp := rfl
@[simp] theorem State.modSpot_closeDown (sp : SpotId) (f : Spot → Spot) : (s.modSpot sp f).closeDown = s.closeDown := rfl
@[simp] theorem State.modSpot_linkCfg (sp : SpotId) (f : Spot → Spot) : (s.modSpot sp f).linkCfg = s.linkCfg := rfl
@[simp] theorem State.modSpot_scaling (sp : SpotId) (f : Spot → Spot) : (s.modSpot sp f).scaling = s.scaling := rfl
@[simp] theorem State.modSpot_unitMask (sp : SpotId) (f : Spot → Spot) : (s.modSpot sp f).unitMask = s.unitMask := rfl
@[simp] theorem State.modSpot_spotMask (sp : SpotId) (f : Spot → Spot) : (s.modSpot sp f).spotMask = s.spotMask := rfl
@[simp] theorem State.modSpot_lock (sp : SpotId) (f : Spot → Spot) : (s.modSpot sp f).lock = s.lock := rfl
@[simp] theorem State.modSpot_clock (sp : SpotId) (f : Spot → Spot) : (s.modSpot sp f).clock = s.clock := rfl
@[simp] theorem State.modSpot_vessels (sp : SpotId) (f : Spot → Spot) : (s.modSpot sp f).vessels = s.vessels := rfl
@[simp] theorem State.modSpot_comps (sp : SpotId) (f : Spot → Spot) : (s.modSpot sp f).comps = s.comps := rfl
@[simp] theorem State.modSpot_queue (sp : SpotId) (f : Spot → Spot) : (s.modSpot sp f).queue = s.queue := rfl
@[simp] theorem State.modSpot_lines (sp : SpotId) (f : Spot → Spot) : (s.modSpot sp f).lines = s.lines := rfl
@[simp] theorem State.modSpot_analog (sp : SpotId) (f : Spot → Spot) : (s.modSpot sp f).analog = s.analog := rfl
@[simp] theorem State.modSpot_bypasses (sp : SpotId) (f : Spot → Spot) : (s.modSpot sp f).bypasses = s.bypasses := rfl
@[simp] theorem State.modSpot_siteTrip (sp : SpotId) (f : Spot → Spot) : (s.modSpot sp f).siteTrip = s.siteTrip := rfl
@[simp] theorem State.modSpot_tickets (sp : SpotId) (f : Spot → Spot) : (s.modSpot sp f).tickets = s.tickets := rfl
@[simp] theorem State.modSpot_ticketCounter (sp : SpotId) (f : Spot → Spot) : (s.modSpot sp f).ticketCounter = s.ticketCounter := rfl
@[simp] theorem State.modSpot_pendingOrder (sp : SpotId) (f : Spot → Spot) : (s.modSpot sp f).pendingOrder = s.pendingOrder := rfl
@[simp] theorem State.modSpot_links (sp : SpotId) (f : Spot → Spot) : (s.modSpot sp f).links = s.links := rfl
@[simp] theorem State.modSpot_failures (sp : SpotId) (f : Spot → Spot) : (s.modSpot sp f).failures = s.failures := rfl
@[simp] theorem State.modSpot_lockout (sp : SpotId) (f : Spot → Spot) : (s.modSpot sp f).lockout = s.lockout := rfl
@[simp] theorem State.modSpot_latches (sp : SpotId) (f : Spot → Spot) : (s.modSpot sp f).latches = s.latches := rfl
@[simp] theorem State.modSpot_pending (sp : SpotId) (f : Spot → Spot) : (s.modSpot sp f).pending = s.pending := rfl
@[simp] theorem State.modSpot_freeCount (sp : SpotId) (f : Spot → Spot) : (s.modSpot sp f).freeCount = s.freeCount := rfl

/-! ### `State.modVessel` -/

@[simp] theorem State.modVessel_powered (v : VesselId) (f : Vessel → Vessel) : (s.modVessel v f).powered = s.powered := rfl
@[simp] theorem State.modVessel_unit (v : VesselId) (f : Vessel → Vessel) : (s.modVessel v f).unit = s.unit := rfl
@[simp] theorem State.modVessel_spotCfg (v : VesselId) (f : Vessel → Vessel) : (s.modVessel v f).spotCfg = s.spotCfg := rfl
@[simp] theorem State.modVessel_products (v : VesselId) (f : Vessel → Vessel) : (s.modVessel v f).products = s.products := rfl
@[simp] theorem State.modVessel_vesselCfg (v : VesselId) (f : Vessel → Vessel) : (s.modVessel v f).vesselCfg = s.vesselCfg := rfl
@[simp] theorem State.modVessel_compCfg (v : VesselId) (f : Vessel → Vessel) : (s.modVessel v f).compCfg = s.compCfg := rfl
@[simp] theorem State.modVessel_compService (v : VesselId) (f : Vessel → Vessel) : (s.modVessel v f).compService = s.compService := rfl
@[simp] theorem State.modVessel_lineCfg (v : VesselId) (f : Vessel → Vessel) : (s.modVessel v f).lineCfg = s.lineCfg := rfl
@[simp] theorem State.modVessel_lineUp (v : VesselId) (f : Vessel → Vessel) : (s.modVessel v f).lineUp = s.lineUp := rfl
@[simp] theorem State.modVessel_closeDown (v : VesselId) (f : Vessel → Vessel) : (s.modVessel v f).closeDown = s.closeDown := rfl
@[simp] theorem State.modVessel_linkCfg (v : VesselId) (f : Vessel → Vessel) : (s.modVessel v f).linkCfg = s.linkCfg := rfl
@[simp] theorem State.modVessel_scaling (v : VesselId) (f : Vessel → Vessel) : (s.modVessel v f).scaling = s.scaling := rfl
@[simp] theorem State.modVessel_unitMask (v : VesselId) (f : Vessel → Vessel) : (s.modVessel v f).unitMask = s.unitMask := rfl
@[simp] theorem State.modVessel_spotMask (v : VesselId) (f : Vessel → Vessel) : (s.modVessel v f).spotMask = s.spotMask := rfl
@[simp] theorem State.modVessel_lock (v : VesselId) (f : Vessel → Vessel) : (s.modVessel v f).lock = s.lock := rfl
@[simp] theorem State.modVessel_clock (v : VesselId) (f : Vessel → Vessel) : (s.modVessel v f).clock = s.clock := rfl
@[simp] theorem State.modVessel_spots (v : VesselId) (f : Vessel → Vessel) : (s.modVessel v f).spots = s.spots := rfl
@[simp] theorem State.modVessel_comps (v : VesselId) (f : Vessel → Vessel) : (s.modVessel v f).comps = s.comps := rfl
@[simp] theorem State.modVessel_queue (v : VesselId) (f : Vessel → Vessel) : (s.modVessel v f).queue = s.queue := rfl
@[simp] theorem State.modVessel_lines (v : VesselId) (f : Vessel → Vessel) : (s.modVessel v f).lines = s.lines := rfl
@[simp] theorem State.modVessel_analog (v : VesselId) (f : Vessel → Vessel) : (s.modVessel v f).analog = s.analog := rfl
@[simp] theorem State.modVessel_bypasses (v : VesselId) (f : Vessel → Vessel) : (s.modVessel v f).bypasses = s.bypasses := rfl
@[simp] theorem State.modVessel_siteTrip (v : VesselId) (f : Vessel → Vessel) : (s.modVessel v f).siteTrip = s.siteTrip := rfl
@[simp] theorem State.modVessel_tickets (v : VesselId) (f : Vessel → Vessel) : (s.modVessel v f).tickets = s.tickets := rfl
@[simp] theorem State.modVessel_ticketCounter (v : VesselId) (f : Vessel → Vessel) : (s.modVessel v f).ticketCounter = s.ticketCounter := rfl
@[simp] theorem State.modVessel_pendingOrder (v : VesselId) (f : Vessel → Vessel) : (s.modVessel v f).pendingOrder = s.pendingOrder := rfl
@[simp] theorem State.modVessel_links (v : VesselId) (f : Vessel → Vessel) : (s.modVessel v f).links = s.links := rfl
@[simp] theorem State.modVessel_failures (v : VesselId) (f : Vessel → Vessel) : (s.modVessel v f).failures = s.failures := rfl
@[simp] theorem State.modVessel_lockout (v : VesselId) (f : Vessel → Vessel) : (s.modVessel v f).lockout = s.lockout := rfl
@[simp] theorem State.modVessel_latches (v : VesselId) (f : Vessel → Vessel) : (s.modVessel v f).latches = s.latches := rfl
@[simp] theorem State.modVessel_pending (v : VesselId) (f : Vessel → Vessel) : (s.modVessel v f).pending = s.pending := rfl
@[simp] theorem State.modVessel_freeCount (v : VesselId) (f : Vessel → Vessel) : (s.modVessel v f).freeCount = s.freeCount := rfl

/-! ### `State.modComp` -/

@[simp] theorem State.modComp_powered (c : CompId) (f : Comp → Comp) : (s.modComp c f).powered = s.powered := rfl
@[simp] theorem State.modComp_unit (c : CompId) (f : Comp → Comp) : (s.modComp c f).unit = s.unit := rfl
@[simp] theorem State.modComp_spotCfg (c : CompId) (f : Comp → Comp) : (s.modComp c f).spotCfg = s.spotCfg := rfl
@[simp] theorem State.modComp_products (c : CompId) (f : Comp → Comp) : (s.modComp c f).products = s.products := rfl
@[simp] theorem State.modComp_vesselCfg (c : CompId) (f : Comp → Comp) : (s.modComp c f).vesselCfg = s.vesselCfg := rfl
@[simp] theorem State.modComp_compCfg (c : CompId) (f : Comp → Comp) : (s.modComp c f).compCfg = s.compCfg := rfl
@[simp] theorem State.modComp_compService (c : CompId) (f : Comp → Comp) : (s.modComp c f).compService = s.compService := rfl
@[simp] theorem State.modComp_lineCfg (c : CompId) (f : Comp → Comp) : (s.modComp c f).lineCfg = s.lineCfg := rfl
@[simp] theorem State.modComp_lineUp (c : CompId) (f : Comp → Comp) : (s.modComp c f).lineUp = s.lineUp := rfl
@[simp] theorem State.modComp_closeDown (c : CompId) (f : Comp → Comp) : (s.modComp c f).closeDown = s.closeDown := rfl
@[simp] theorem State.modComp_linkCfg (c : CompId) (f : Comp → Comp) : (s.modComp c f).linkCfg = s.linkCfg := rfl
@[simp] theorem State.modComp_scaling (c : CompId) (f : Comp → Comp) : (s.modComp c f).scaling = s.scaling := rfl
@[simp] theorem State.modComp_unitMask (c : CompId) (f : Comp → Comp) : (s.modComp c f).unitMask = s.unitMask := rfl
@[simp] theorem State.modComp_spotMask (c : CompId) (f : Comp → Comp) : (s.modComp c f).spotMask = s.spotMask := rfl
@[simp] theorem State.modComp_lock (c : CompId) (f : Comp → Comp) : (s.modComp c f).lock = s.lock := rfl
@[simp] theorem State.modComp_clock (c : CompId) (f : Comp → Comp) : (s.modComp c f).clock = s.clock := rfl
@[simp] theorem State.modComp_spots (c : CompId) (f : Comp → Comp) : (s.modComp c f).spots = s.spots := rfl
@[simp] theorem State.modComp_vessels (c : CompId) (f : Comp → Comp) : (s.modComp c f).vessels = s.vessels := rfl
@[simp] theorem State.modComp_queue (c : CompId) (f : Comp → Comp) : (s.modComp c f).queue = s.queue := rfl
@[simp] theorem State.modComp_lines (c : CompId) (f : Comp → Comp) : (s.modComp c f).lines = s.lines := rfl
@[simp] theorem State.modComp_analog (c : CompId) (f : Comp → Comp) : (s.modComp c f).analog = s.analog := rfl
@[simp] theorem State.modComp_bypasses (c : CompId) (f : Comp → Comp) : (s.modComp c f).bypasses = s.bypasses := rfl
@[simp] theorem State.modComp_siteTrip (c : CompId) (f : Comp → Comp) : (s.modComp c f).siteTrip = s.siteTrip := rfl
@[simp] theorem State.modComp_tickets (c : CompId) (f : Comp → Comp) : (s.modComp c f).tickets = s.tickets := rfl
@[simp] theorem State.modComp_ticketCounter (c : CompId) (f : Comp → Comp) : (s.modComp c f).ticketCounter = s.ticketCounter := rfl
@[simp] theorem State.modComp_pendingOrder (c : CompId) (f : Comp → Comp) : (s.modComp c f).pendingOrder = s.pendingOrder := rfl
@[simp] theorem State.modComp_links (c : CompId) (f : Comp → Comp) : (s.modComp c f).links = s.links := rfl
@[simp] theorem State.modComp_failures (c : CompId) (f : Comp → Comp) : (s.modComp c f).failures = s.failures := rfl
@[simp] theorem State.modComp_lockout (c : CompId) (f : Comp → Comp) : (s.modComp c f).lockout = s.lockout := rfl
@[simp] theorem State.modComp_latches (c : CompId) (f : Comp → Comp) : (s.modComp c f).latches = s.latches := rfl
@[simp] theorem State.modComp_pending (c : CompId) (f : Comp → Comp) : (s.modComp c f).pending = s.pending := rfl
@[simp] theorem State.modComp_freeCount (c : CompId) (f : Comp → Comp) : (s.modComp c f).freeCount = s.freeCount := rfl

/-! ### `State.modLink` -/

@[simp] theorem State.modLink_powered (l : Link) (f : LinkUnit → LinkUnit) : (s.modLink l f).powered = s.powered := rfl
@[simp] theorem State.modLink_unit (l : Link) (f : LinkUnit → LinkUnit) : (s.modLink l f).unit = s.unit := rfl
@[simp] theorem State.modLink_spotCfg (l : Link) (f : LinkUnit → LinkUnit) : (s.modLink l f).spotCfg = s.spotCfg := rfl
@[simp] theorem State.modLink_products (l : Link) (f : LinkUnit → LinkUnit) : (s.modLink l f).products = s.products := rfl
@[simp] theorem State.modLink_vesselCfg (l : Link) (f : LinkUnit → LinkUnit) : (s.modLink l f).vesselCfg = s.vesselCfg := rfl
@[simp] theorem State.modLink_compCfg (l : Link) (f : LinkUnit → LinkUnit) : (s.modLink l f).compCfg = s.compCfg := rfl
@[simp] theorem State.modLink_compService (l : Link) (f : LinkUnit → LinkUnit) : (s.modLink l f).compService = s.compService := rfl
@[simp] theorem State.modLink_lineCfg (l : Link) (f : LinkUnit → LinkUnit) : (s.modLink l f).lineCfg = s.lineCfg := rfl
@[simp] theorem State.modLink_lineUp (l : Link) (f : LinkUnit → LinkUnit) : (s.modLink l f).lineUp = s.lineUp := rfl
@[simp] theorem State.modLink_closeDown (l : Link) (f : LinkUnit → LinkUnit) : (s.modLink l f).closeDown = s.closeDown := rfl
@[simp] theorem State.modLink_linkCfg (l : Link) (f : LinkUnit → LinkUnit) : (s.modLink l f).linkCfg = s.linkCfg := rfl
@[simp] theorem State.modLink_scaling (l : Link) (f : LinkUnit → LinkUnit) : (s.modLink l f).scaling = s.scaling := rfl
@[simp] theorem State.modLink_unitMask (l : Link) (f : LinkUnit → LinkUnit) : (s.modLink l f).unitMask = s.unitMask := rfl
@[simp] theorem State.modLink_spotMask (l : Link) (f : LinkUnit → LinkUnit) : (s.modLink l f).spotMask = s.spotMask := rfl
@[simp] theorem State.modLink_lock (l : Link) (f : LinkUnit → LinkUnit) : (s.modLink l f).lock = s.lock := rfl
@[simp] theorem State.modLink_clock (l : Link) (f : LinkUnit → LinkUnit) : (s.modLink l f).clock = s.clock := rfl
@[simp] theorem State.modLink_spots (l : Link) (f : LinkUnit → LinkUnit) : (s.modLink l f).spots = s.spots := rfl
@[simp] theorem State.modLink_vessels (l : Link) (f : LinkUnit → LinkUnit) : (s.modLink l f).vessels = s.vessels := rfl
@[simp] theorem State.modLink_comps (l : Link) (f : LinkUnit → LinkUnit) : (s.modLink l f).comps = s.comps := rfl
@[simp] theorem State.modLink_queue (l : Link) (f : LinkUnit → LinkUnit) : (s.modLink l f).queue = s.queue := rfl
@[simp] theorem State.modLink_lines (l : Link) (f : LinkUnit → LinkUnit) : (s.modLink l f).lines = s.lines := rfl
@[simp] theorem State.modLink_analog (l : Link) (f : LinkUnit → LinkUnit) : (s.modLink l f).analog = s.analog := rfl
@[simp] theorem State.modLink_bypasses (l : Link) (f : LinkUnit → LinkUnit) : (s.modLink l f).bypasses = s.bypasses := rfl
@[simp] theorem State.modLink_siteTrip (l : Link) (f : LinkUnit → LinkUnit) : (s.modLink l f).siteTrip = s.siteTrip := rfl
@[simp] theorem State.modLink_tickets (l : Link) (f : LinkUnit → LinkUnit) : (s.modLink l f).tickets = s.tickets := rfl
@[simp] theorem State.modLink_ticketCounter (l : Link) (f : LinkUnit → LinkUnit) : (s.modLink l f).ticketCounter = s.ticketCounter := rfl
@[simp] theorem State.modLink_pendingOrder (l : Link) (f : LinkUnit → LinkUnit) : (s.modLink l f).pendingOrder = s.pendingOrder := rfl
@[simp] theorem State.modLink_failures (l : Link) (f : LinkUnit → LinkUnit) : (s.modLink l f).failures = s.failures := rfl
@[simp] theorem State.modLink_lockout (l : Link) (f : LinkUnit → LinkUnit) : (s.modLink l f).lockout = s.lockout := rfl
@[simp] theorem State.modLink_latches (l : Link) (f : LinkUnit → LinkUnit) : (s.modLink l f).latches = s.latches := rfl
@[simp] theorem State.modLink_pending (l : Link) (f : LinkUnit → LinkUnit) : (s.modLink l f).pending = s.pending := rfl
@[simp] theorem State.modLink_freeCount (l : Link) (f : LinkUnit → LinkUnit) : (s.modLink l f).freeCount = s.freeCount := rfl

/-! ### `State.modLine` -/

@[simp] theorem State.modLine_powered (i : LineId) (f : Line → Line) : (s.modLine i f).powered = s.powered := rfl
@[simp] theorem State.modLine_unit (i : LineId) (f : Line → Line) : (s.modLine i f).unit = s.unit := rfl
@[simp] theorem State.modLine_spotCfg (i : LineId) (f : Line → Line) : (s.modLine i f).spotCfg = s.spotCfg := rfl
@[simp] theorem State.modLine_products (i : LineId) (f : Line → Line) : (s.modLine i f).products = s.products := rfl
@[simp] theorem State.modLine_vesselCfg (i : LineId) (f : Line → Line) : (s.modLine i f).vesselCfg = s.vesselCfg := rfl
@[simp] theorem State.modLine_compCfg (i : LineId) (f : Line → Line) : (s.modLine i f).compCfg = s.compCfg := rfl
@[simp] theorem State.modLine_compService (i : LineId) (f : Line → Line) : (s.modLine i f).compService = s.compService := rfl
@[simp] theorem State.modLine_lineCfg (i : LineId) (f : Line → Line) : (s.modLine i f).lineCfg = s.lineCfg := rfl
@[simp] theorem State.modLine_lineUp (i : LineId) (f : Line → Line) : (s.modLine i f).lineUp = s.lineUp := rfl
@[simp] theorem State.modLine_closeDown (i : LineId) (f : Line → Line) : (s.modLine i f).closeDown = s.closeDown := rfl
@[simp] theorem State.modLine_linkCfg (i : LineId) (f : Line → Line) : (s.modLine i f).linkCfg = s.linkCfg := rfl
@[simp] theorem State.modLine_scaling (i : LineId) (f : Line → Line) : (s.modLine i f).scaling = s.scaling := rfl
@[simp] theorem State.modLine_unitMask (i : LineId) (f : Line → Line) : (s.modLine i f).unitMask = s.unitMask := rfl
@[simp] theorem State.modLine_spotMask (i : LineId) (f : Line → Line) : (s.modLine i f).spotMask = s.spotMask := rfl
@[simp] theorem State.modLine_lock (i : LineId) (f : Line → Line) : (s.modLine i f).lock = s.lock := rfl
@[simp] theorem State.modLine_clock (i : LineId) (f : Line → Line) : (s.modLine i f).clock = s.clock := rfl
@[simp] theorem State.modLine_spots (i : LineId) (f : Line → Line) : (s.modLine i f).spots = s.spots := rfl
@[simp] theorem State.modLine_vessels (i : LineId) (f : Line → Line) : (s.modLine i f).vessels = s.vessels := rfl
@[simp] theorem State.modLine_comps (i : LineId) (f : Line → Line) : (s.modLine i f).comps = s.comps := rfl
@[simp] theorem State.modLine_queue (i : LineId) (f : Line → Line) : (s.modLine i f).queue = s.queue := rfl
@[simp] theorem State.modLine_analog (i : LineId) (f : Line → Line) : (s.modLine i f).analog = s.analog := rfl
@[simp] theorem State.modLine_bypasses (i : LineId) (f : Line → Line) : (s.modLine i f).bypasses = s.bypasses := rfl
@[simp] theorem State.modLine_siteTrip (i : LineId) (f : Line → Line) : (s.modLine i f).siteTrip = s.siteTrip := rfl
@[simp] theorem State.modLine_tickets (i : LineId) (f : Line → Line) : (s.modLine i f).tickets = s.tickets := rfl
@[simp] theorem State.modLine_ticketCounter (i : LineId) (f : Line → Line) : (s.modLine i f).ticketCounter = s.ticketCounter := rfl
@[simp] theorem State.modLine_pendingOrder (i : LineId) (f : Line → Line) : (s.modLine i f).pendingOrder = s.pendingOrder := rfl
@[simp] theorem State.modLine_links (i : LineId) (f : Line → Line) : (s.modLine i f).links = s.links := rfl
@[simp] theorem State.modLine_failures (i : LineId) (f : Line → Line) : (s.modLine i f).failures = s.failures := rfl
@[simp] theorem State.modLine_lockout (i : LineId) (f : Line → Line) : (s.modLine i f).lockout = s.lockout := rfl
@[simp] theorem State.modLine_latches (i : LineId) (f : Line → Line) : (s.modLine i f).latches = s.latches := rfl
@[simp] theorem State.modLine_pending (i : LineId) (f : Line → Line) : (s.modLine i f).pending = s.pending := rfl
@[simp] theorem State.modLine_freeCount (i : LineId) (f : Line → Line) : (s.modLine i f).freeCount = s.freeCount := rfl

/-! ### `State.modAnalog` -/

@[simp] theorem State.modAnalog_powered (ch : ChannelId) (f : AnalogChannel → AnalogChannel) : (s.modAnalog ch f).powered = s.powered := rfl
@[simp] theorem State.modAnalog_unit (ch : ChannelId) (f : AnalogChannel → AnalogChannel) : (s.modAnalog ch f).unit = s.unit := rfl
@[simp] theorem State.modAnalog_spotCfg (ch : ChannelId) (f : AnalogChannel → AnalogChannel) : (s.modAnalog ch f).spotCfg = s.spotCfg := rfl
@[simp] theorem State.modAnalog_products (ch : ChannelId) (f : AnalogChannel → AnalogChannel) : (s.modAnalog ch f).products = s.products := rfl
@[simp] theorem State.modAnalog_vesselCfg (ch : ChannelId) (f : AnalogChannel → AnalogChannel) : (s.modAnalog ch f).vesselCfg = s.vesselCfg := rfl
@[simp] theorem State.modAnalog_compCfg (ch : ChannelId) (f : AnalogChannel → AnalogChannel) : (s.modAnalog ch f).compCfg = s.compCfg := rfl
@[simp] theorem State.modAnalog_compService (ch : ChannelId) (f : AnalogChannel → AnalogChannel) : (s.modAnalog ch f).compService = s.compService := rfl
@[simp] theorem State.modAnalog_lineCfg (ch : ChannelId) (f : AnalogChannel → AnalogChannel) : (s.modAnalog ch f).lineCfg = s.lineCfg := rfl
@[simp] theorem State.modAnalog_lineUp (ch : ChannelId) (f : AnalogChannel → AnalogChannel) : (s.modAnalog ch f).lineUp = s.lineUp := rfl
@[simp] theorem State.modAnalog_closeDown (ch : ChannelId) (f : AnalogChannel → AnalogChannel) : (s.modAnalog ch f).closeDown = s.closeDown := rfl
@[simp] theorem State.modAnalog_linkCfg (ch : ChannelId) (f : AnalogChannel → AnalogChannel) : (s.modAnalog ch f).linkCfg = s.linkCfg := rfl
@[simp] theorem State.modAnalog_scaling (ch : ChannelId) (f : AnalogChannel → AnalogChannel) : (s.modAnalog ch f).scaling = s.scaling := rfl
@[simp] theorem State.modAnalog_unitMask (ch : ChannelId) (f : AnalogChannel → AnalogChannel) : (s.modAnalog ch f).unitMask = s.unitMask := rfl
@[simp] theorem State.modAnalog_spotMask (ch : ChannelId) (f : AnalogChannel → AnalogChannel) : (s.modAnalog ch f).spotMask = s.spotMask := rfl
@[simp] theorem State.modAnalog_lock (ch : ChannelId) (f : AnalogChannel → AnalogChannel) : (s.modAnalog ch f).lock = s.lock := rfl
@[simp] theorem State.modAnalog_clock (ch : ChannelId) (f : AnalogChannel → AnalogChannel) : (s.modAnalog ch f).clock = s.clock := rfl
@[simp] theorem State.modAnalog_spots (ch : ChannelId) (f : AnalogChannel → AnalogChannel) : (s.modAnalog ch f).spots = s.spots := rfl
@[simp] theorem State.modAnalog_vessels (ch : ChannelId) (f : AnalogChannel → AnalogChannel) : (s.modAnalog ch f).vessels = s.vessels := rfl
@[simp] theorem State.modAnalog_comps (ch : ChannelId) (f : AnalogChannel → AnalogChannel) : (s.modAnalog ch f).comps = s.comps := rfl
@[simp] theorem State.modAnalog_queue (ch : ChannelId) (f : AnalogChannel → AnalogChannel) : (s.modAnalog ch f).queue = s.queue := rfl
@[simp] theorem State.modAnalog_lines (ch : ChannelId) (f : AnalogChannel → AnalogChannel) : (s.modAnalog ch f).lines = s.lines := rfl
@[simp] theorem State.modAnalog_bypasses (ch : ChannelId) (f : AnalogChannel → AnalogChannel) : (s.modAnalog ch f).bypasses = s.bypasses := rfl
@[simp] theorem State.modAnalog_siteTrip (ch : ChannelId) (f : AnalogChannel → AnalogChannel) : (s.modAnalog ch f).siteTrip = s.siteTrip := rfl
@[simp] theorem State.modAnalog_tickets (ch : ChannelId) (f : AnalogChannel → AnalogChannel) : (s.modAnalog ch f).tickets = s.tickets := rfl
@[simp] theorem State.modAnalog_ticketCounter (ch : ChannelId) (f : AnalogChannel → AnalogChannel) : (s.modAnalog ch f).ticketCounter = s.ticketCounter := rfl
@[simp] theorem State.modAnalog_pendingOrder (ch : ChannelId) (f : AnalogChannel → AnalogChannel) : (s.modAnalog ch f).pendingOrder = s.pendingOrder := rfl
@[simp] theorem State.modAnalog_links (ch : ChannelId) (f : AnalogChannel → AnalogChannel) : (s.modAnalog ch f).links = s.links := rfl
@[simp] theorem State.modAnalog_failures (ch : ChannelId) (f : AnalogChannel → AnalogChannel) : (s.modAnalog ch f).failures = s.failures := rfl
@[simp] theorem State.modAnalog_lockout (ch : ChannelId) (f : AnalogChannel → AnalogChannel) : (s.modAnalog ch f).lockout = s.lockout := rfl
@[simp] theorem State.modAnalog_latches (ch : ChannelId) (f : AnalogChannel → AnalogChannel) : (s.modAnalog ch f).latches = s.latches := rfl
@[simp] theorem State.modAnalog_pending (ch : ChannelId) (f : AnalogChannel → AnalogChannel) : (s.modAnalog ch f).pending = s.pending := rfl
@[simp] theorem State.modAnalog_freeCount (ch : ChannelId) (f : AnalogChannel → AnalogChannel) : (s.modAnalog ch f).freeCount = s.freeCount := rfl

/-! ### `State.latchSpot` -/

@[simp] theorem State.latchSpot_powered (sp : SpotId) (k : SpotLatch) : (s.latchSpot sp k).powered = s.powered := rfl
@[simp] theorem State.latchSpot_unit (sp : SpotId) (k : SpotLatch) : (s.latchSpot sp k).unit = s.unit := rfl
@[simp] theorem State.latchSpot_spotCfg (sp : SpotId) (k : SpotLatch) : (s.latchSpot sp k).spotCfg = s.spotCfg := rfl
@[simp] theorem State.latchSpot_products (sp : SpotId) (k : SpotLatch) : (s.latchSpot sp k).products = s.products := rfl
@[simp] theorem State.latchSpot_vesselCfg (sp : SpotId) (k : SpotLatch) : (s.latchSpot sp k).vesselCfg = s.vesselCfg := rfl
@[simp] theorem State.latchSpot_compCfg (sp : SpotId) (k : SpotLatch) : (s.latchSpot sp k).compCfg = s.compCfg := rfl
@[simp] theorem State.latchSpot_compService (sp : SpotId) (k : SpotLatch) : (s.latchSpot sp k).compService = s.compService := rfl
@[simp] theorem State.latchSpot_lineCfg (sp : SpotId) (k : SpotLatch) : (s.latchSpot sp k).lineCfg = s.lineCfg := rfl
@[simp] theorem State.latchSpot_lineUp (sp : SpotId) (k : SpotLatch) : (s.latchSpot sp k).lineUp = s.lineUp := rfl
@[simp] theorem State.latchSpot_closeDown (sp : SpotId) (k : SpotLatch) : (s.latchSpot sp k).closeDown = s.closeDown := rfl
@[simp] theorem State.latchSpot_linkCfg (sp : SpotId) (k : SpotLatch) : (s.latchSpot sp k).linkCfg = s.linkCfg := rfl
@[simp] theorem State.latchSpot_scaling (sp : SpotId) (k : SpotLatch) : (s.latchSpot sp k).scaling = s.scaling := rfl
@[simp] theorem State.latchSpot_unitMask (sp : SpotId) (k : SpotLatch) : (s.latchSpot sp k).unitMask = s.unitMask := rfl
@[simp] theorem State.latchSpot_spotMask (sp : SpotId) (k : SpotLatch) : (s.latchSpot sp k).spotMask = s.spotMask := rfl
@[simp] theorem State.latchSpot_lock (sp : SpotId) (k : SpotLatch) : (s.latchSpot sp k).lock = s.lock := rfl
@[simp] theorem State.latchSpot_clock (sp : SpotId) (k : SpotLatch) : (s.latchSpot sp k).clock = s.clock := rfl
@[simp] theorem State.latchSpot_spots (sp : SpotId) (k : SpotLatch) : (s.latchSpot sp k).spots = s.spots := rfl
@[simp] theorem State.latchSpot_vessels (sp : SpotId) (k : SpotLatch) : (s.latchSpot sp k).vessels = s.vessels := rfl
@[simp] theorem State.latchSpot_comps (sp : SpotId) (k : SpotLatch) : (s.latchSpot sp k).comps = s.comps := rfl
@[simp] theorem State.latchSpot_queue (sp : SpotId) (k : SpotLatch) : (s.latchSpot sp k).queue = s.queue := rfl
@[simp] theorem State.latchSpot_lines (sp : SpotId) (k : SpotLatch) : (s.latchSpot sp k).lines = s.lines := rfl
@[simp] theorem State.latchSpot_analog (sp : SpotId) (k : SpotLatch) : (s.latchSpot sp k).analog = s.analog := rfl
@[simp] theorem State.latchSpot_bypasses (sp : SpotId) (k : SpotLatch) : (s.latchSpot sp k).bypasses = s.bypasses := rfl
@[simp] theorem State.latchSpot_siteTrip (sp : SpotId) (k : SpotLatch) : (s.latchSpot sp k).siteTrip = s.siteTrip := rfl
@[simp] theorem State.latchSpot_tickets (sp : SpotId) (k : SpotLatch) : (s.latchSpot sp k).tickets = s.tickets := rfl
@[simp] theorem State.latchSpot_ticketCounter (sp : SpotId) (k : SpotLatch) : (s.latchSpot sp k).ticketCounter = s.ticketCounter := rfl
@[simp] theorem State.latchSpot_pendingOrder (sp : SpotId) (k : SpotLatch) : (s.latchSpot sp k).pendingOrder = s.pendingOrder := rfl
@[simp] theorem State.latchSpot_links (sp : SpotId) (k : SpotLatch) : (s.latchSpot sp k).links = s.links := rfl
@[simp] theorem State.latchSpot_failures (sp : SpotId) (k : SpotLatch) : (s.latchSpot sp k).failures = s.failures := rfl
@[simp] theorem State.latchSpot_lockout (sp : SpotId) (k : SpotLatch) : (s.latchSpot sp k).lockout = s.lockout := rfl
@[simp] theorem State.latchSpot_pending (sp : SpotId) (k : SpotLatch) : (s.latchSpot sp k).pending = s.pending := rfl
@[simp] theorem State.latchSpot_freeCount (sp : SpotId) (k : SpotLatch) : (s.latchSpot sp k).freeCount = s.freeCount := rfl

/-! ### `State.latchSiteTrip` -/

@[simp] theorem State.latchSiteTrip_powered : (s.latchSiteTrip).powered = s.powered := rfl
@[simp] theorem State.latchSiteTrip_unit : (s.latchSiteTrip).unit = s.unit := rfl
@[simp] theorem State.latchSiteTrip_spotCfg : (s.latchSiteTrip).spotCfg = s.spotCfg := rfl
@[simp] theorem State.latchSiteTrip_products : (s.latchSiteTrip).products = s.products := rfl
@[simp] theorem State.latchSiteTrip_vesselCfg : (s.latchSiteTrip).vesselCfg = s.vesselCfg := rfl
@[simp] theorem State.latchSiteTrip_compCfg : (s.latchSiteTrip).compCfg = s.compCfg := rfl
@[simp] theorem State.latchSiteTrip_compService : (s.latchSiteTrip).compService = s.compService := rfl
@[simp] theorem State.latchSiteTrip_lineCfg : (s.latchSiteTrip).lineCfg = s.lineCfg := rfl
@[simp] theorem State.latchSiteTrip_lineUp : (s.latchSiteTrip).lineUp = s.lineUp := rfl
@[simp] theorem State.latchSiteTrip_closeDown : (s.latchSiteTrip).closeDown = s.closeDown := rfl
@[simp] theorem State.latchSiteTrip_linkCfg : (s.latchSiteTrip).linkCfg = s.linkCfg := rfl
@[simp] theorem State.latchSiteTrip_scaling : (s.latchSiteTrip).scaling = s.scaling := rfl
@[simp] theorem State.latchSiteTrip_unitMask : (s.latchSiteTrip).unitMask = s.unitMask := rfl
@[simp] theorem State.latchSiteTrip_spotMask : (s.latchSiteTrip).spotMask = s.spotMask := rfl
@[simp] theorem State.latchSiteTrip_lock : (s.latchSiteTrip).lock = s.lock := rfl
@[simp] theorem State.latchSiteTrip_clock : (s.latchSiteTrip).clock = s.clock := rfl
@[simp] theorem State.latchSiteTrip_spots : (s.latchSiteTrip).spots = s.spots := rfl
@[simp] theorem State.latchSiteTrip_vessels : (s.latchSiteTrip).vessels = s.vessels := rfl
@[simp] theorem State.latchSiteTrip_comps : (s.latchSiteTrip).comps = s.comps := rfl
@[simp] theorem State.latchSiteTrip_queue : (s.latchSiteTrip).queue = s.queue := rfl
@[simp] theorem State.latchSiteTrip_lines : (s.latchSiteTrip).lines = s.lines := rfl
@[simp] theorem State.latchSiteTrip_analog : (s.latchSiteTrip).analog = s.analog := rfl
@[simp] theorem State.latchSiteTrip_bypasses : (s.latchSiteTrip).bypasses = s.bypasses := rfl
@[simp] theorem State.latchSiteTrip_siteTrip : (s.latchSiteTrip).siteTrip = s.siteTrip := rfl
@[simp] theorem State.latchSiteTrip_tickets : (s.latchSiteTrip).tickets = s.tickets := rfl
@[simp] theorem State.latchSiteTrip_ticketCounter : (s.latchSiteTrip).ticketCounter = s.ticketCounter := rfl
@[simp] theorem State.latchSiteTrip_pendingOrder : (s.latchSiteTrip).pendingOrder = s.pendingOrder := rfl
@[simp] theorem State.latchSiteTrip_links : (s.latchSiteTrip).links = s.links := rfl
@[simp] theorem State.latchSiteTrip_failures : (s.latchSiteTrip).failures = s.failures := rfl
@[simp] theorem State.latchSiteTrip_lockout : (s.latchSiteTrip).lockout = s.lockout := rfl
@[simp] theorem State.latchSiteTrip_pending : (s.latchSiteTrip).pending = s.pending := rfl
@[simp] theorem State.latchSiteTrip_freeCount : (s.latchSiteTrip).freeCount = s.freeCount := rfl

/-! ### `State.latchVesselStale` -/

@[simp] theorem State.latchVesselStale_powered (v : VesselId) : (s.latchVesselStale v).powered = s.powered := rfl
@[simp] theorem State.latchVesselStale_unit (v : VesselId) : (s.latchVesselStale v).unit = s.unit := rfl
@[simp] theorem State.latchVesselStale_spotCfg (v : VesselId) : (s.latchVesselStale v).spotCfg = s.spotCfg := rfl
@[simp] theorem State.latchVesselStale_products (v : VesselId) : (s.latchVesselStale v).products = s.products := rfl
@[simp] theorem State.latchVesselStale_vesselCfg (v : VesselId) : (s.latchVesselStale v).vesselCfg = s.vesselCfg := rfl
@[simp] theorem State.latchVesselStale_compCfg (v : VesselId) : (s.latchVesselStale v).compCfg = s.compCfg := rfl
@[simp] theorem State.latchVesselStale_compService (v : VesselId) : (s.latchVesselStale v).compService = s.compService := rfl
@[simp] theorem State.latchVesselStale_lineCfg (v : VesselId) : (s.latchVesselStale v).lineCfg = s.lineCfg := rfl
@[simp] theorem State.latchVesselStale_lineUp (v : VesselId) : (s.latchVesselStale v).lineUp = s.lineUp := rfl
@[simp] theorem State.latchVesselStale_closeDown (v : VesselId) : (s.latchVesselStale v).closeDown = s.closeDown := rfl
@[simp] theorem State.latchVesselStale_linkCfg (v : VesselId) : (s.latchVesselStale v).linkCfg = s.linkCfg := rfl
@[simp] theorem State.latchVesselStale_scaling (v : VesselId) : (s.latchVesselStale v).scaling = s.scaling := rfl
@[simp] theorem State.latchVesselStale_unitMask (v : VesselId) : (s.latchVesselStale v).unitMask = s.unitMask := rfl
@[simp] theorem State.latchVesselStale_spotMask (v : VesselId) : (s.latchVesselStale v).spotMask = s.spotMask := rfl
@[simp] theorem State.latchVesselStale_lock (v : VesselId) : (s.latchVesselStale v).lock = s.lock := rfl
@[simp] theorem State.latchVesselStale_clock (v : VesselId) : (s.latchVesselStale v).clock = s.clock := rfl
@[simp] theorem State.latchVesselStale_spots (v : VesselId) : (s.latchVesselStale v).spots = s.spots := rfl
@[simp] theorem State.latchVesselStale_vessels (v : VesselId) : (s.latchVesselStale v).vessels = s.vessels := rfl
@[simp] theorem State.latchVesselStale_comps (v : VesselId) : (s.latchVesselStale v).comps = s.comps := rfl
@[simp] theorem State.latchVesselStale_queue (v : VesselId) : (s.latchVesselStale v).queue = s.queue := rfl
@[simp] theorem State.latchVesselStale_lines (v : VesselId) : (s.latchVesselStale v).lines = s.lines := rfl
@[simp] theorem State.latchVesselStale_analog (v : VesselId) : (s.latchVesselStale v).analog = s.analog := rfl
@[simp] theorem State.latchVesselStale_bypasses (v : VesselId) : (s.latchVesselStale v).bypasses = s.bypasses := rfl
@[simp] theorem State.latchVesselStale_siteTrip (v : VesselId) : (s.latchVesselStale v).siteTrip = s.siteTrip := rfl
@[simp] theorem State.latchVesselStale_tickets (v : VesselId) : (s.latchVesselStale v).tickets = s.tickets := rfl
@[simp] theorem State.latchVesselStale_ticketCounter (v : VesselId) : (s.latchVesselStale v).ticketCounter = s.ticketCounter := rfl
@[simp] theorem State.latchVesselStale_pendingOrder (v : VesselId) : (s.latchVesselStale v).pendingOrder = s.pendingOrder := rfl
@[simp] theorem State.latchVesselStale_links (v : VesselId) : (s.latchVesselStale v).links = s.links := rfl
@[simp] theorem State.latchVesselStale_failures (v : VesselId) : (s.latchVesselStale v).failures = s.failures := rfl
@[simp] theorem State.latchVesselStale_lockout (v : VesselId) : (s.latchVesselStale v).lockout = s.lockout := rfl
@[simp] theorem State.latchVesselStale_pending (v : VesselId) : (s.latchVesselStale v).pending = s.pending := rfl
@[simp] theorem State.latchVesselStale_freeCount (v : VesselId) : (s.latchVesselStale v).freeCount = s.freeCount := rfl

/-! ### `State.latchVesselHigh` -/

@[simp] theorem State.latchVesselHigh_powered (v : VesselId) : (s.latchVesselHigh v).powered = s.powered := rfl
@[simp] theorem State.latchVesselHigh_unit (v : VesselId) : (s.latchVesselHigh v).unit = s.unit := rfl
@[simp] theorem State.latchVesselHigh_spotCfg (v : VesselId) : (s.latchVesselHigh v).spotCfg = s.spotCfg := rfl
@[simp] theorem State.latchVesselHigh_products (v : VesselId) : (s.latchVesselHigh v).products = s.products := rfl
@[simp] theorem State.latchVesselHigh_vesselCfg (v : VesselId) : (s.latchVesselHigh v).vesselCfg = s.vesselCfg := rfl
@[simp] theorem State.latchVesselHigh_compCfg (v : VesselId) : (s.latchVesselHigh v).compCfg = s.compCfg := rfl
@[simp] theorem State.latchVesselHigh_compService (v : VesselId) : (s.latchVesselHigh v).compService = s.compService := rfl
@[simp] theorem State.latchVesselHigh_lineCfg (v : VesselId) : (s.latchVesselHigh v).lineCfg = s.lineCfg := rfl
@[simp] theorem State.latchVesselHigh_lineUp (v : VesselId) : (s.latchVesselHigh v).lineUp = s.lineUp := rfl
@[simp] theorem State.latchVesselHigh_closeDown (v : VesselId) : (s.latchVesselHigh v).closeDown = s.closeDown := rfl
@[simp] theorem State.latchVesselHigh_linkCfg (v : VesselId) : (s.latchVesselHigh v).linkCfg = s.linkCfg := rfl
@[simp] theorem State.latchVesselHigh_scaling (v : VesselId) : (s.latchVesselHigh v).scaling = s.scaling := rfl
@[simp] theorem State.latchVesselHigh_unitMask (v : VesselId) : (s.latchVesselHigh v).unitMask = s.unitMask := rfl
@[simp] theorem State.latchVesselHigh_spotMask (v : VesselId) : (s.latchVesselHigh v).spotMask = s.spotMask := rfl
@[simp] theorem State.latchVesselHigh_lock (v : VesselId) : (s.latchVesselHigh v).lock = s.lock := rfl
@[simp] theorem State.latchVesselHigh_clock (v : VesselId) : (s.latchVesselHigh v).clock = s.clock := rfl
@[simp] theorem State.latchVesselHigh_spots (v : VesselId) : (s.latchVesselHigh v).spots = s.spots := rfl
@[simp] theorem State.latchVesselHigh_vessels (v : VesselId) : (s.latchVesselHigh v).vessels = s.vessels := rfl
@[simp] theorem State.latchVesselHigh_comps (v : VesselId) : (s.latchVesselHigh v).comps = s.comps := rfl
@[simp] theorem State.latchVesselHigh_queue (v : VesselId) : (s.latchVesselHigh v).queue = s.queue := rfl
@[simp] theorem State.latchVesselHigh_lines (v : VesselId) : (s.latchVesselHigh v).lines = s.lines := rfl
@[simp] theorem State.latchVesselHigh_analog (v : VesselId) : (s.latchVesselHigh v).analog = s.analog := rfl
@[simp] theorem State.latchVesselHigh_bypasses (v : VesselId) : (s.latchVesselHigh v).bypasses = s.bypasses := rfl
@[simp] theorem State.latchVesselHigh_siteTrip (v : VesselId) : (s.latchVesselHigh v).siteTrip = s.siteTrip := rfl
@[simp] theorem State.latchVesselHigh_tickets (v : VesselId) : (s.latchVesselHigh v).tickets = s.tickets := rfl
@[simp] theorem State.latchVesselHigh_ticketCounter (v : VesselId) : (s.latchVesselHigh v).ticketCounter = s.ticketCounter := rfl
@[simp] theorem State.latchVesselHigh_pendingOrder (v : VesselId) : (s.latchVesselHigh v).pendingOrder = s.pendingOrder := rfl
@[simp] theorem State.latchVesselHigh_links (v : VesselId) : (s.latchVesselHigh v).links = s.links := rfl
@[simp] theorem State.latchVesselHigh_failures (v : VesselId) : (s.latchVesselHigh v).failures = s.failures := rfl
@[simp] theorem State.latchVesselHigh_lockout (v : VesselId) : (s.latchVesselHigh v).lockout = s.lockout := rfl
@[simp] theorem State.latchVesselHigh_pending (v : VesselId) : (s.latchVesselHigh v).pending = s.pending := rfl
@[simp] theorem State.latchVesselHigh_freeCount (v : VesselId) : (s.latchVesselHigh v).freeCount = s.freeCount := rfl

/-! ### `State.latchCompFault` -/

@[simp] theorem State.latchCompFault_powered (c : CompId) : (s.latchCompFault c).powered = s.powered := rfl
@[simp] theorem State.latchCompFault_unit (c : CompId) : (s.latchCompFault c).unit = s.unit := rfl
@[simp] theorem State.latchCompFault_spotCfg (c : CompId) : (s.latchCompFault c).spotCfg = s.spotCfg := rfl
@[simp] theorem State.latchCompFault_products (c : CompId) : (s.latchCompFault c).products = s.products := rfl
@[simp] theorem State.latchCompFault_vesselCfg (c : CompId) : (s.latchCompFault c).vesselCfg = s.vesselCfg := rfl
@[simp] theorem State.latchCompFault_compCfg (c : CompId) : (s.latchCompFault c).compCfg = s.compCfg := rfl
@[simp] theorem State.latchCompFault_compService (c : CompId) : (s.latchCompFault c).compService = s.compService := rfl
@[simp] theorem State.latchCompFault_lineCfg (c : CompId) : (s.latchCompFault c).lineCfg = s.lineCfg := rfl
@[simp] theorem State.latchCompFault_lineUp (c : CompId) : (s.latchCompFault c).lineUp = s.lineUp := rfl
@[simp] theorem State.latchCompFault_closeDown (c : CompId) : (s.latchCompFault c).closeDown = s.closeDown := rfl
@[simp] theorem State.latchCompFault_linkCfg (c : CompId) : (s.latchCompFault c).linkCfg = s.linkCfg := rfl
@[simp] theorem State.latchCompFault_scaling (c : CompId) : (s.latchCompFault c).scaling = s.scaling := rfl
@[simp] theorem State.latchCompFault_unitMask (c : CompId) : (s.latchCompFault c).unitMask = s.unitMask := rfl
@[simp] theorem State.latchCompFault_spotMask (c : CompId) : (s.latchCompFault c).spotMask = s.spotMask := rfl
@[simp] theorem State.latchCompFault_lock (c : CompId) : (s.latchCompFault c).lock = s.lock := rfl
@[simp] theorem State.latchCompFault_clock (c : CompId) : (s.latchCompFault c).clock = s.clock := rfl
@[simp] theorem State.latchCompFault_spots (c : CompId) : (s.latchCompFault c).spots = s.spots := rfl
@[simp] theorem State.latchCompFault_vessels (c : CompId) : (s.latchCompFault c).vessels = s.vessels := rfl
@[simp] theorem State.latchCompFault_comps (c : CompId) : (s.latchCompFault c).comps = s.comps := rfl
@[simp] theorem State.latchCompFault_queue (c : CompId) : (s.latchCompFault c).queue = s.queue := rfl
@[simp] theorem State.latchCompFault_lines (c : CompId) : (s.latchCompFault c).lines = s.lines := rfl
@[simp] theorem State.latchCompFault_analog (c : CompId) : (s.latchCompFault c).analog = s.analog := rfl
@[simp] theorem State.latchCompFault_bypasses (c : CompId) : (s.latchCompFault c).bypasses = s.bypasses := rfl
@[simp] theorem State.latchCompFault_siteTrip (c : CompId) : (s.latchCompFault c).siteTrip = s.siteTrip := rfl
@[simp] theorem State.latchCompFault_tickets (c : CompId) : (s.latchCompFault c).tickets = s.tickets := rfl
@[simp] theorem State.latchCompFault_ticketCounter (c : CompId) : (s.latchCompFault c).ticketCounter = s.ticketCounter := rfl
@[simp] theorem State.latchCompFault_pendingOrder (c : CompId) : (s.latchCompFault c).pendingOrder = s.pendingOrder := rfl
@[simp] theorem State.latchCompFault_links (c : CompId) : (s.latchCompFault c).links = s.links := rfl
@[simp] theorem State.latchCompFault_failures (c : CompId) : (s.latchCompFault c).failures = s.failures := rfl
@[simp] theorem State.latchCompFault_lockout (c : CompId) : (s.latchCompFault c).lockout = s.lockout := rfl
@[simp] theorem State.latchCompFault_pending (c : CompId) : (s.latchCompFault c).pending = s.pending := rfl
@[simp] theorem State.latchCompFault_freeCount (c : CompId) : (s.latchCompFault c).freeCount = s.freeCount := rfl

/-! ### `State.latchTicketReady` -/

@[simp] theorem State.latchTicketReady_powered : (s.latchTicketReady).powered = s.powered := rfl
@[simp] theorem State.latchTicketReady_unit : (s.latchTicketReady).unit = s.unit := rfl
@[simp] theorem State.latchTicketReady_spotCfg : (s.latchTicketReady).spotCfg = s.spotCfg := rfl
@[simp] theorem State.latchTicketReady_products : (s.latchTicketReady).products = s.products := rfl
@[simp] theorem State.latchTicketReady_vesselCfg : (s.latchTicketReady).vesselCfg = s.vesselCfg := rfl
@[simp] theorem State.latchTicketReady_compCfg : (s.latchTicketReady).compCfg = s.compCfg := rfl
@[simp] theorem State.latchTicketReady_compService : (s.latchTicketReady).compService = s.compService := rfl
@[simp] theorem State.latchTicketReady_lineCfg : (s.latchTicketReady).lineCfg = s.lineCfg := rfl
@[simp] theorem State.latchTicketReady_lineUp : (s.latchTicketReady).lineUp = s.lineUp := rfl
@[simp] theorem State.latchTicketReady_closeDown : (s.latchTicketReady).closeDown = s.closeDown := rfl
@[simp] theorem State.latchTicketReady_linkCfg : (s.latchTicketReady).linkCfg = s.linkCfg := rfl
@[simp] theorem State.latchTicketReady_scaling : (s.latchTicketReady).scaling = s.scaling := rfl
@[simp] theorem State.latchTicketReady_unitMask : (s.latchTicketReady).unitMask = s.unitMask := rfl
@[simp] theorem State.latchTicketReady_spotMask : (s.latchTicketReady).spotMask = s.spotMask := rfl
@[simp] theorem State.latchTicketReady_lock : (s.latchTicketReady).lock = s.lock := rfl
@[simp] theorem State.latchTicketReady_clock : (s.latchTicketReady).clock = s.clock := rfl
@[simp] theorem State.latchTicketReady_spots : (s.latchTicketReady).spots = s.spots := rfl
@[simp] theorem State.latchTicketReady_vessels : (s.latchTicketReady).vessels = s.vessels := rfl
@[simp] theorem State.latchTicketReady_comps : (s.latchTicketReady).comps = s.comps := rfl
@[simp] theorem State.latchTicketReady_queue : (s.latchTicketReady).queue = s.queue := rfl
@[simp] theorem State.latchTicketReady_lines : (s.latchTicketReady).lines = s.lines := rfl
@[simp] theorem State.latchTicketReady_analog : (s.latchTicketReady).analog = s.analog := rfl
@[simp] theorem State.latchTicketReady_bypasses : (s.latchTicketReady).bypasses = s.bypasses := rfl
@[simp] theorem State.latchTicketReady_siteTrip : (s.latchTicketReady).siteTrip = s.siteTrip := rfl
@[simp] theorem State.latchTicketReady_tickets : (s.latchTicketReady).tickets = s.tickets := rfl
@[simp] theorem State.latchTicketReady_ticketCounter : (s.latchTicketReady).ticketCounter = s.ticketCounter := rfl
@[simp] theorem State.latchTicketReady_pendingOrder : (s.latchTicketReady).pendingOrder = s.pendingOrder := rfl
@[simp] theorem State.latchTicketReady_links : (s.latchTicketReady).links = s.links := rfl
@[simp] theorem State.latchTicketReady_failures : (s.latchTicketReady).failures = s.failures := rfl
@[simp] theorem State.latchTicketReady_lockout : (s.latchTicketReady).lockout = s.lockout := rfl
@[simp] theorem State.latchTicketReady_pending : (s.latchTicketReady).pending = s.pending := rfl
@[simp] theorem State.latchTicketReady_freeCount : (s.latchTicketReady).freeCount = s.freeCount := rfl

/-! ### `State.latchTicketQueueFull` -/

@[simp] theorem State.latchTicketQueueFull_powered : (s.latchTicketQueueFull).powered = s.powered := rfl
@[simp] theorem State.latchTicketQueueFull_unit : (s.latchTicketQueueFull).unit = s.unit := rfl
@[simp] theorem State.latchTicketQueueFull_spotCfg : (s.latchTicketQueueFull).spotCfg = s.spotCfg := rfl
@[simp] theorem State.latchTicketQueueFull_products : (s.latchTicketQueueFull).products = s.products := rfl
@[simp] theorem State.latchTicketQueueFull_vesselCfg : (s.latchTicketQueueFull).vesselCfg = s.vesselCfg := rfl
@[simp] theorem State.latchTicketQueueFull_compCfg : (s.latchTicketQueueFull).compCfg = s.compCfg := rfl
@[simp] theorem State.latchTicketQueueFull_compService : (s.latchTicketQueueFull).compService = s.compService := rfl
@[simp] theorem State.latchTicketQueueFull_lineCfg : (s.latchTicketQueueFull).lineCfg = s.lineCfg := rfl
@[simp] theorem State.latchTicketQueueFull_lineUp : (s.latchTicketQueueFull).lineUp = s.lineUp := rfl
@[simp] theorem State.latchTicketQueueFull_closeDown : (s.latchTicketQueueFull).closeDown = s.closeDown := rfl
@[simp] theorem State.latchTicketQueueFull_linkCfg : (s.latchTicketQueueFull).linkCfg = s.linkCfg := rfl
@[simp] theorem State.latchTicketQueueFull_scaling : (s.latchTicketQueueFull).scaling = s.scaling := rfl
@[simp] theorem State.latchTicketQueueFull_unitMask : (s.latchTicketQueueFull).unitMask = s.unitMask := rfl
@[simp] theorem State.latchTicketQueueFull_spotMask : (s.latchTicketQueueFull).spotMask = s.spotMask := rfl
@[simp] theorem State.latchTicketQueueFull_lock : (s.latchTicketQueueFull).lock = s.lock := rfl
@[simp] theorem State.latchTicketQueueFull_clock : (s.latchTicketQueueFull).clock = s.clock := rfl
@[simp] theorem State.latchTicketQueueFull_spots : (s.latchTicketQueueFull).spots = s.spots := rfl
@[simp] theorem State.latchTicketQueueFull_vessels : (s.latchTicketQueueFull).vessels = s.vessels := rfl
@[simp] theorem State.latchTicketQueueFull_comps : (s.latchTicketQueueFull).comps = s.comps := rfl
@[simp] theorem State.latchTicketQueueFull_queue : (s.latchTicketQueueFull).queue = s.queue := rfl
@[simp] theorem State.latchTicketQueueFull_lines : (s.latchTicketQueueFull).lines = s.lines := rfl
@[simp] theorem State.latchTicketQueueFull_analog : (s.latchTicketQueueFull).analog = s.analog := rfl
@[simp] theorem State.latchTicketQueueFull_bypasses : (s.latchTicketQueueFull).bypasses = s.bypasses := rfl
@[simp] theorem State.latchTicketQueueFull_siteTrip : (s.latchTicketQueueFull).siteTrip = s.siteTrip := rfl
@[simp] theorem State.latchTicketQueueFull_tickets : (s.latchTicketQueueFull).tickets = s.tickets := rfl
@[simp] theorem State.latchTicketQueueFull_ticketCounter : (s.latchTicketQueueFull).ticketCounter = s.ticketCounter := rfl
@[simp] theorem State.latchTicketQueueFull_pendingOrder : (s.latchTicketQueueFull).pendingOrder = s.pendingOrder := rfl
@[simp] theorem State.latchTicketQueueFull_links : (s.latchTicketQueueFull).links = s.links := rfl
@[simp] theorem State.latchTicketQueueFull_failures : (s.latchTicketQueueFull).failures = s.failures := rfl
@[simp] theorem State.latchTicketQueueFull_lockout : (s.latchTicketQueueFull).lockout = s.lockout := rfl
@[simp] theorem State.latchTicketQueueFull_pending : (s.latchTicketQueueFull).pending = s.pending := rfl
@[simp] theorem State.latchTicketQueueFull_freeCount : (s.latchTicketQueueFull).freeCount = s.freeCount := rfl

/-! ### `State.latchInputEdge` -/

@[simp] theorem State.latchInputEdge_powered (f : FieldFn) : (s.latchInputEdge f).powered = s.powered := rfl
@[simp] theorem State.latchInputEdge_unit (f : FieldFn) : (s.latchInputEdge f).unit = s.unit := rfl
@[simp] theorem State.latchInputEdge_spotCfg (f : FieldFn) : (s.latchInputEdge f).spotCfg = s.spotCfg := rfl
@[simp] theorem State.latchInputEdge_products (f : FieldFn) : (s.latchInputEdge f).products = s.products := rfl
@[simp] theorem State.latchInputEdge_vesselCfg (f : FieldFn) : (s.latchInputEdge f).vesselCfg = s.vesselCfg := rfl
@[simp] theorem State.latchInputEdge_compCfg (f : FieldFn) : (s.latchInputEdge f).compCfg = s.compCfg := rfl
@[simp] theorem State.latchInputEdge_compService (f : FieldFn) : (s.latchInputEdge f).compService = s.compService := rfl
@[simp] theorem State.latchInputEdge_lineCfg (f : FieldFn) : (s.latchInputEdge f).lineCfg = s.lineCfg := rfl
@[simp] theorem State.latchInputEdge_lineUp (f : FieldFn) : (s.latchInputEdge f).lineUp = s.lineUp := rfl
@[simp] theorem State.latchInputEdge_closeDown (f : FieldFn) : (s.latchInputEdge f).closeDown = s.closeDown := rfl
@[simp] theorem State.latchInputEdge_linkCfg (f : FieldFn) : (s.latchInputEdge f).linkCfg = s.linkCfg := rfl
@[simp] theorem State.latchInputEdge_scaling (f : FieldFn) : (s.latchInputEdge f).scaling = s.scaling := rfl
@[simp] theorem State.latchInputEdge_unitMask (f : FieldFn) : (s.latchInputEdge f).unitMask = s.unitMask := rfl
@[simp] theorem State.latchInputEdge_spotMask (f : FieldFn) : (s.latchInputEdge f).spotMask = s.spotMask := rfl
@[simp] theorem State.latchInputEdge_lock (f : FieldFn) : (s.latchInputEdge f).lock = s.lock := rfl
@[simp] theorem State.latchInputEdge_clock (f : FieldFn) : (s.latchInputEdge f).clock = s.clock := rfl
@[simp] theorem State.latchInputEdge_spots (f : FieldFn) : (s.latchInputEdge f).spots = s.spots := rfl
@[simp] theorem State.latchInputEdge_vessels (f : FieldFn) : (s.latchInputEdge f).vessels = s.vessels := rfl
@[simp] theorem State.latchInputEdge_comps (f : FieldFn) : (s.latchInputEdge f).comps = s.comps := rfl
@[simp] theorem State.latchInputEdge_queue (f : FieldFn) : (s.latchInputEdge f).queue = s.queue := rfl
@[simp] theorem State.latchInputEdge_lines (f : FieldFn) : (s.latchInputEdge f).lines = s.lines := rfl
@[simp] theorem State.latchInputEdge_analog (f : FieldFn) : (s.latchInputEdge f).analog = s.analog := rfl
@[simp] theorem State.latchInputEdge_bypasses (f : FieldFn) : (s.latchInputEdge f).bypasses = s.bypasses := rfl
@[simp] theorem State.latchInputEdge_siteTrip (f : FieldFn) : (s.latchInputEdge f).siteTrip = s.siteTrip := rfl
@[simp] theorem State.latchInputEdge_tickets (f : FieldFn) : (s.latchInputEdge f).tickets = s.tickets := rfl
@[simp] theorem State.latchInputEdge_ticketCounter (f : FieldFn) : (s.latchInputEdge f).ticketCounter = s.ticketCounter := rfl
@[simp] theorem State.latchInputEdge_pendingOrder (f : FieldFn) : (s.latchInputEdge f).pendingOrder = s.pendingOrder := rfl
@[simp] theorem State.latchInputEdge_links (f : FieldFn) : (s.latchInputEdge f).links = s.links := rfl
@[simp] theorem State.latchInputEdge_failures (f : FieldFn) : (s.latchInputEdge f).failures = s.failures := rfl
@[simp] theorem State.latchInputEdge_lockout (f : FieldFn) : (s.latchInputEdge f).lockout = s.lockout := rfl
@[simp] theorem State.latchInputEdge_pending (f : FieldFn) : (s.latchInputEdge f).pending = s.pending := rfl
@[simp] theorem State.latchInputEdge_freeCount (f : FieldFn) : (s.latchInputEdge f).freeCount = s.freeCount := rfl

/-! ### `State.latchLinkOverrun` -/

@[simp] theorem State.latchLinkOverrun_powered (l : Link) : (s.latchLinkOverrun l).powered = s.powered := rfl
@[simp] theorem State.latchLinkOverrun_unit (l : Link) : (s.latchLinkOverrun l).unit = s.unit := rfl
@[simp] theorem State.latchLinkOverrun_spotCfg (l : Link) : (s.latchLinkOverrun l).spotCfg = s.spotCfg := rfl
@[simp] theorem State.latchLinkOverrun_products (l : Link) : (s.latchLinkOverrun l).products = s.products := rfl
@[simp] theorem State.latchLinkOverrun_vesselCfg (l : Link) : (s.latchLinkOverrun l).vesselCfg = s.vesselCfg := rfl
@[simp] theorem State.latchLinkOverrun_compCfg (l : Link) : (s.latchLinkOverrun l).compCfg = s.compCfg := rfl
@[simp] theorem State.latchLinkOverrun_compService (l : Link) : (s.latchLinkOverrun l).compService = s.compService := rfl
@[simp] theorem State.latchLinkOverrun_lineCfg (l : Link) : (s.latchLinkOverrun l).lineCfg = s.lineCfg := rfl
@[simp] theorem State.latchLinkOverrun_lineUp (l : Link) : (s.latchLinkOverrun l).lineUp = s.lineUp := rfl
@[simp] theorem State.latchLinkOverrun_closeDown (l : Link) : (s.latchLinkOverrun l).closeDown = s.closeDown := rfl
@[simp] theorem State.latchLinkOverrun_linkCfg (l : Link) : (s.latchLinkOverrun l).linkCfg = s.linkCfg := rfl
@[simp] theorem State.latchLinkOverrun_scaling (l : Link) : (s.latchLinkOverrun l).scaling = s.scaling := rfl
@[simp] theorem State.latchLinkOverrun_unitMask (l : Link) : (s.latchLinkOverrun l).unitMask = s.unitMask := rfl
@[simp] theorem State.latchLinkOverrun_spotMask (l : Link) : (s.latchLinkOverrun l).spotMask = s.spotMask := rfl
@[simp] theorem State.latchLinkOverrun_lock (l : Link) : (s.latchLinkOverrun l).lock = s.lock := rfl
@[simp] theorem State.latchLinkOverrun_clock (l : Link) : (s.latchLinkOverrun l).clock = s.clock := rfl
@[simp] theorem State.latchLinkOverrun_spots (l : Link) : (s.latchLinkOverrun l).spots = s.spots := rfl
@[simp] theorem State.latchLinkOverrun_vessels (l : Link) : (s.latchLinkOverrun l).vessels = s.vessels := rfl
@[simp] theorem State.latchLinkOverrun_comps (l : Link) : (s.latchLinkOverrun l).comps = s.comps := rfl
@[simp] theorem State.latchLinkOverrun_queue (l : Link) : (s.latchLinkOverrun l).queue = s.queue := rfl
@[simp] theorem State.latchLinkOverrun_lines (l : Link) : (s.latchLinkOverrun l).lines = s.lines := rfl
@[simp] theorem State.latchLinkOverrun_analog (l : Link) : (s.latchLinkOverrun l).analog = s.analog := rfl
@[simp] theorem State.latchLinkOverrun_bypasses (l : Link) : (s.latchLinkOverrun l).bypasses = s.bypasses := rfl
@[simp] theorem State.latchLinkOverrun_siteTrip (l : Link) : (s.latchLinkOverrun l).siteTrip = s.siteTrip := rfl
@[simp] theorem State.latchLinkOverrun_tickets (l : Link) : (s.latchLinkOverrun l).tickets = s.tickets := rfl
@[simp] theorem State.latchLinkOverrun_ticketCounter (l : Link) : (s.latchLinkOverrun l).ticketCounter = s.ticketCounter := rfl
@[simp] theorem State.latchLinkOverrun_pendingOrder (l : Link) : (s.latchLinkOverrun l).pendingOrder = s.pendingOrder := rfl
@[simp] theorem State.latchLinkOverrun_links (l : Link) : (s.latchLinkOverrun l).links = s.links := rfl
@[simp] theorem State.latchLinkOverrun_failures (l : Link) : (s.latchLinkOverrun l).failures = s.failures := rfl
@[simp] theorem State.latchLinkOverrun_lockout (l : Link) : (s.latchLinkOverrun l).lockout = s.lockout := rfl
@[simp] theorem State.latchLinkOverrun_pending (l : Link) : (s.latchLinkOverrun l).pending = s.pending := rfl
@[simp] theorem State.latchLinkOverrun_freeCount (l : Link) : (s.latchLinkOverrun l).freeCount = s.freeCount := rfl

/-! ### `State.latchAuthLockout` -/

@[simp] theorem State.latchAuthLockout_powered : (s.latchAuthLockout).powered = s.powered := rfl
@[simp] theorem State.latchAuthLockout_unit : (s.latchAuthLockout).unit = s.unit := rfl
@[simp] theorem State.latchAuthLockout_spotCfg : (s.latchAuthLockout).spotCfg = s.spotCfg := rfl
@[simp] theorem State.latchAuthLockout_products : (s.latchAuthLockout).products = s.products := rfl
@[simp] theorem State.latchAuthLockout_vesselCfg : (s.latchAuthLockout).vesselCfg = s.vesselCfg := rfl
@[simp] theorem State.latchAuthLockout_compCfg : (s.latchAuthLockout).compCfg = s.compCfg := rfl
@[simp] theorem State.latchAuthLockout_compService : (s.latchAuthLockout).compService = s.compService := rfl
@[simp] theorem State.latchAuthLockout_lineCfg : (s.latchAuthLockout).lineCfg = s.lineCfg := rfl
@[simp] theorem State.latchAuthLockout_lineUp : (s.latchAuthLockout).lineUp = s.lineUp := rfl
@[simp] theorem State.latchAuthLockout_closeDown : (s.latchAuthLockout).closeDown = s.closeDown := rfl
@[simp] theorem State.latchAuthLockout_linkCfg : (s.latchAuthLockout).linkCfg = s.linkCfg := rfl
@[simp] theorem State.latchAuthLockout_scaling : (s.latchAuthLockout).scaling = s.scaling := rfl
@[simp] theorem State.latchAuthLockout_unitMask : (s.latchAuthLockout).unitMask = s.unitMask := rfl
@[simp] theorem State.latchAuthLockout_spotMask : (s.latchAuthLockout).spotMask = s.spotMask := rfl
@[simp] theorem State.latchAuthLockout_lock : (s.latchAuthLockout).lock = s.lock := rfl
@[simp] theorem State.latchAuthLockout_clock : (s.latchAuthLockout).clock = s.clock := rfl
@[simp] theorem State.latchAuthLockout_spots : (s.latchAuthLockout).spots = s.spots := rfl
@[simp] theorem State.latchAuthLockout_vessels : (s.latchAuthLockout).vessels = s.vessels := rfl
@[simp] theorem State.latchAuthLockout_comps : (s.latchAuthLockout).comps = s.comps := rfl
@[simp] theorem State.latchAuthLockout_queue : (s.latchAuthLockout).queue = s.queue := rfl
@[simp] theorem State.latchAuthLockout_lines : (s.latchAuthLockout).lines = s.lines := rfl
@[simp] theorem State.latchAuthLockout_analog : (s.latchAuthLockout).analog = s.analog := rfl
@[simp] theorem State.latchAuthLockout_bypasses : (s.latchAuthLockout).bypasses = s.bypasses := rfl
@[simp] theorem State.latchAuthLockout_siteTrip : (s.latchAuthLockout).siteTrip = s.siteTrip := rfl
@[simp] theorem State.latchAuthLockout_tickets : (s.latchAuthLockout).tickets = s.tickets := rfl
@[simp] theorem State.latchAuthLockout_ticketCounter : (s.latchAuthLockout).ticketCounter = s.ticketCounter := rfl
@[simp] theorem State.latchAuthLockout_pendingOrder : (s.latchAuthLockout).pendingOrder = s.pendingOrder := rfl
@[simp] theorem State.latchAuthLockout_links : (s.latchAuthLockout).links = s.links := rfl
@[simp] theorem State.latchAuthLockout_failures : (s.latchAuthLockout).failures = s.failures := rfl
@[simp] theorem State.latchAuthLockout_lockout : (s.latchAuthLockout).lockout = s.lockout := rfl
@[simp] theorem State.latchAuthLockout_pending : (s.latchAuthLockout).pending = s.pending := rfl
@[simp] theorem State.latchAuthLockout_freeCount : (s.latchAuthLockout).freeCount = s.freeCount := rfl

/-! ### `State.latchRestarted` -/

@[simp] theorem State.latchRestarted_powered : (s.latchRestarted).powered = s.powered := rfl
@[simp] theorem State.latchRestarted_unit : (s.latchRestarted).unit = s.unit := rfl
@[simp] theorem State.latchRestarted_spotCfg : (s.latchRestarted).spotCfg = s.spotCfg := rfl
@[simp] theorem State.latchRestarted_products : (s.latchRestarted).products = s.products := rfl
@[simp] theorem State.latchRestarted_vesselCfg : (s.latchRestarted).vesselCfg = s.vesselCfg := rfl
@[simp] theorem State.latchRestarted_compCfg : (s.latchRestarted).compCfg = s.compCfg := rfl
@[simp] theorem State.latchRestarted_compService : (s.latchRestarted).compService = s.compService := rfl
@[simp] theorem State.latchRestarted_lineCfg : (s.latchRestarted).lineCfg = s.lineCfg := rfl
@[simp] theorem State.latchRestarted_lineUp : (s.latchRestarted).lineUp = s.lineUp := rfl
@[simp] theorem State.latchRestarted_closeDown : (s.latchRestarted).closeDown = s.closeDown := rfl
@[simp] theorem State.latchRestarted_linkCfg : (s.latchRestarted).linkCfg = s.linkCfg := rfl
@[simp] theorem State.latchRestarted_scaling : (s.latchRestarted).scaling = s.scaling := rfl
@[simp] theorem State.latchRestarted_unitMask : (s.latchRestarted).unitMask = s.unitMask := rfl
@[simp] theorem State.latchRestarted_spotMask : (s.latchRestarted).spotMask = s.spotMask := rfl
@[simp] theorem State.latchRestarted_lock : (s.latchRestarted).lock = s.lock := rfl
@[simp] theorem State.latchRestarted_clock : (s.latchRestarted).clock = s.clock := rfl
@[simp] theorem State.latchRestarted_spots : (s.latchRestarted).spots = s.spots := rfl
@[simp] theorem State.latchRestarted_vessels : (s.latchRestarted).vessels = s.vessels := rfl
@[simp] theorem State.latchRestarted_comps : (s.latchRestarted).comps = s.comps := rfl
@[simp] theorem State.latchRestarted_queue : (s.latchRestarted).queue = s.queue := rfl
@[simp] theorem State.latchRestarted_lines : (s.latchRestarted).lines = s.lines := rfl
@[simp] theorem State.latchRestarted_analog : (s.latchRestarted).analog = s.analog := rfl
@[simp] theorem State.latchRestarted_bypasses : (s.latchRestarted).bypasses = s.bypasses := rfl
@[simp] theorem State.latchRestarted_siteTrip : (s.latchRestarted).siteTrip = s.siteTrip := rfl
@[simp] theorem State.latchRestarted_tickets : (s.latchRestarted).tickets = s.tickets := rfl
@[simp] theorem State.latchRestarted_ticketCounter : (s.latchRestarted).ticketCounter = s.ticketCounter := rfl
@[simp] theorem State.latchRestarted_pendingOrder : (s.latchRestarted).pendingOrder = s.pendingOrder := rfl
@[simp] theorem State.latchRestarted_links : (s.latchRestarted).links = s.links := rfl
@[simp] theorem State.latchRestarted_failures : (s.latchRestarted).failures = s.failures := rfl
@[simp] theorem State.latchRestarted_lockout : (s.latchRestarted).lockout = s.lockout := rfl
@[simp] theorem State.latchRestarted_pending : (s.latchRestarted).pending = s.pending := rfl
@[simp] theorem State.latchRestarted_freeCount : (s.latchRestarted).freeCount = s.freeCount := rfl

/-! ### `State.joinTail` -/

@[simp] theorem State.joinTail_powered (sp : SpotId) (d : Direction) : (s.joinTail sp d).powered = s.powered := rfl
@[simp] theorem State.joinTail_unit (sp : SpotId) (d : Direction) : (s.joinTail sp d).unit = s.unit := rfl
@[simp] theorem State.joinTail_spotCfg (sp : SpotId) (d : Direction) : (s.joinTail sp d).spotCfg = s.spotCfg := rfl
@[simp] theorem State.joinTail_products (sp : SpotId) (d : Direction) : (s.joinTail sp d).products = s.products := rfl
@[simp] theorem State.joinTail_vesselCfg (sp : SpotId) (d : Direction) : (s.joinTail sp d).vesselCfg = s.vesselCfg := rfl
@[simp] theorem State.joinTail_compCfg (sp : SpotId) (d : Direction) : (s.joinTail sp d).compCfg = s.compCfg := rfl
@[simp] theorem State.joinTail_compService (sp : SpotId) (d : Direction) : (s.joinTail sp d).compService = s.compService := rfl
@[simp] theorem State.joinTail_lineCfg (sp : SpotId) (d : Direction) : (s.joinTail sp d).lineCfg = s.lineCfg := rfl
@[simp] theorem State.joinTail_lineUp (sp : SpotId) (d : Direction) : (s.joinTail sp d).lineUp = s.lineUp := rfl
@[simp] theorem State.joinTail_closeDown (sp : SpotId) (d : Direction) : (s.joinTail sp d).closeDown = s.closeDown := rfl
@[simp] theorem State.joinTail_linkCfg (sp : SpotId) (d : Direction) : (s.joinTail sp d).linkCfg = s.linkCfg := rfl
@[simp] theorem State.joinTail_scaling (sp : SpotId) (d : Direction) : (s.joinTail sp d).scaling = s.scaling := rfl
@[simp] theorem State.joinTail_unitMask (sp : SpotId) (d : Direction) : (s.joinTail sp d).unitMask = s.unitMask := rfl
@[simp] theorem State.joinTail_spotMask (sp : SpotId) (d : Direction) : (s.joinTail sp d).spotMask = s.spotMask := rfl
@[simp] theorem State.joinTail_lock (sp : SpotId) (d : Direction) : (s.joinTail sp d).lock = s.lock := rfl
@[simp] theorem State.joinTail_clock (sp : SpotId) (d : Direction) : (s.joinTail sp d).clock = s.clock := rfl
@[simp] theorem State.joinTail_spots (sp : SpotId) (d : Direction) : (s.joinTail sp d).spots = s.spots := rfl
@[simp] theorem State.joinTail_vessels (sp : SpotId) (d : Direction) : (s.joinTail sp d).vessels = s.vessels := rfl
@[simp] theorem State.joinTail_comps (sp : SpotId) (d : Direction) : (s.joinTail sp d).comps = s.comps := rfl
@[simp] theorem State.joinTail_lines (sp : SpotId) (d : Direction) : (s.joinTail sp d).lines = s.lines := rfl
@[simp] theorem State.joinTail_analog (sp : SpotId) (d : Direction) : (s.joinTail sp d).analog = s.analog := rfl
@[simp] theorem State.joinTail_bypasses (sp : SpotId) (d : Direction) : (s.joinTail sp d).bypasses = s.bypasses := rfl
@[simp] theorem State.joinTail_siteTrip (sp : SpotId) (d : Direction) : (s.joinTail sp d).siteTrip = s.siteTrip := rfl
@[simp] theorem State.joinTail_tickets (sp : SpotId) (d : Direction) : (s.joinTail sp d).tickets = s.tickets := rfl
@[simp] theorem State.joinTail_ticketCounter (sp : SpotId) (d : Direction) : (s.joinTail sp d).ticketCounter = s.ticketCounter := rfl
@[simp] theorem State.joinTail_pendingOrder (sp : SpotId) (d : Direction) : (s.joinTail sp d).pendingOrder = s.pendingOrder := rfl
@[simp] theorem State.joinTail_links (sp : SpotId) (d : Direction) : (s.joinTail sp d).links = s.links := rfl
@[simp] theorem State.joinTail_failures (sp : SpotId) (d : Direction) : (s.joinTail sp d).failures = s.failures := rfl
@[simp] theorem State.joinTail_lockout (sp : SpotId) (d : Direction) : (s.joinTail sp d).lockout = s.lockout := rfl
@[simp] theorem State.joinTail_latches (sp : SpotId) (d : Direction) : (s.joinTail sp d).latches = s.latches := rfl
@[simp] theorem State.joinTail_pending (sp : SpotId) (d : Direction) : (s.joinTail sp d).pending = s.pending := rfl
@[simp] theorem State.joinTail_freeCount (sp : SpotId) (d : Direction) : (s.joinTail sp d).freeCount = s.freeCount := rfl

/-! ### `State.joinHead` -/

@[simp] theorem State.joinHead_powered (sp : SpotId) (d : Direction) : (s.joinHead sp d).powered = s.powered := rfl
@[simp] theorem State.joinHead_unit (sp : SpotId) (d : Direction) : (s.joinHead sp d).unit = s.unit := rfl
@[simp] theorem State.joinHead_spotCfg (sp : SpotId) (d : Direction) : (s.joinHead sp d).spotCfg = s.spotCfg := rfl
@[simp] theorem State.joinHead_products (sp : SpotId) (d : Direction) : (s.joinHead sp d).products = s.products := rfl
@[simp] theorem State.joinHead_vesselCfg (sp : SpotId) (d : Direction) : (s.joinHead sp d).vesselCfg = s.vesselCfg := rfl
@[simp] theorem State.joinHead_compCfg (sp : SpotId) (d : Direction) : (s.joinHead sp d).compCfg = s.compCfg := rfl
@[simp] theorem State.joinHead_compService (sp : SpotId) (d : Direction) : (s.joinHead sp d).compService = s.compService := rfl
@[simp] theorem State.joinHead_lineCfg (sp : SpotId) (d : Direction) : (s.joinHead sp d).lineCfg = s.lineCfg := rfl
@[simp] theorem State.joinHead_lineUp (sp : SpotId) (d : Direction) : (s.joinHead sp d).lineUp = s.lineUp := rfl
@[simp] theorem State.joinHead_closeDown (sp : SpotId) (d : Direction) : (s.joinHead sp d).closeDown = s.closeDown := rfl
@[simp] theorem State.joinHead_linkCfg (sp : SpotId) (d : Direction) : (s.joinHead sp d).linkCfg = s.linkCfg := rfl
@[simp] theorem State.joinHead_scaling (sp : SpotId) (d : Direction) : (s.joinHead sp d).scaling = s.scaling := rfl
@[simp] theorem State.joinHead_unitMask (sp : SpotId) (d : Direction) : (s.joinHead sp d).unitMask = s.unitMask := rfl
@[simp] theorem State.joinHead_spotMask (sp : SpotId) (d : Direction) : (s.joinHead sp d).spotMask = s.spotMask := rfl
@[simp] theorem State.joinHead_lock (sp : SpotId) (d : Direction) : (s.joinHead sp d).lock = s.lock := rfl
@[simp] theorem State.joinHead_clock (sp : SpotId) (d : Direction) : (s.joinHead sp d).clock = s.clock := rfl
@[simp] theorem State.joinHead_spots (sp : SpotId) (d : Direction) : (s.joinHead sp d).spots = s.spots := rfl
@[simp] theorem State.joinHead_vessels (sp : SpotId) (d : Direction) : (s.joinHead sp d).vessels = s.vessels := rfl
@[simp] theorem State.joinHead_comps (sp : SpotId) (d : Direction) : (s.joinHead sp d).comps = s.comps := rfl
@[simp] theorem State.joinHead_lines (sp : SpotId) (d : Direction) : (s.joinHead sp d).lines = s.lines := rfl
@[simp] theorem State.joinHead_analog (sp : SpotId) (d : Direction) : (s.joinHead sp d).analog = s.analog := rfl
@[simp] theorem State.joinHead_bypasses (sp : SpotId) (d : Direction) : (s.joinHead sp d).bypasses = s.bypasses := rfl
@[simp] theorem State.joinHead_siteTrip (sp : SpotId) (d : Direction) : (s.joinHead sp d).siteTrip = s.siteTrip := rfl
@[simp] theorem State.joinHead_tickets (sp : SpotId) (d : Direction) : (s.joinHead sp d).tickets = s.tickets := rfl
@[simp] theorem State.joinHead_ticketCounter (sp : SpotId) (d : Direction) : (s.joinHead sp d).ticketCounter = s.ticketCounter := rfl
@[simp] theorem State.joinHead_pendingOrder (sp : SpotId) (d : Direction) : (s.joinHead sp d).pendingOrder = s.pendingOrder := rfl
@[simp] theorem State.joinHead_links (sp : SpotId) (d : Direction) : (s.joinHead sp d).links = s.links := rfl
@[simp] theorem State.joinHead_failures (sp : SpotId) (d : Direction) : (s.joinHead sp d).failures = s.failures := rfl
@[simp] theorem State.joinHead_lockout (sp : SpotId) (d : Direction) : (s.joinHead sp d).lockout = s.lockout := rfl
@[simp] theorem State.joinHead_latches (sp : SpotId) (d : Direction) : (s.joinHead sp d).latches = s.latches := rfl
@[simp] theorem State.joinHead_pending (sp : SpotId) (d : Direction) : (s.joinHead sp d).pending = s.pending := rfl
@[simp] theorem State.joinHead_freeCount (sp : SpotId) (d : Direction) : (s.joinHead sp d).freeCount = s.freeCount := rfl

/-! ### `State.withdraw` -/

@[simp] theorem State.withdraw_powered (sp : SpotId) : (s.withdraw sp).powered = s.powered := rfl
@[simp] theorem State.withdraw_unit (sp : SpotId) : (s.withdraw sp).unit = s.unit := rfl
@[simp] theorem State.withdraw_spotCfg (sp : SpotId) : (s.withdraw sp).spotCfg = s.spotCfg := rfl
@[simp] theorem State.withdraw_products (sp : SpotId) : (s.withdraw sp).products = s.products := rfl
@[simp] theorem State.withdraw_vesselCfg (sp : SpotId) : (s.withdraw sp).vesselCfg = s.vesselCfg := rfl
@[simp] theorem State.withdraw_compCfg (sp : SpotId) : (s.withdraw sp).compCfg = s.compCfg := rfl
@[simp] theorem State.withdraw_compService (sp : SpotId) : (s.withdraw sp).compService = s.compService := rfl
@[simp] theorem State.withdraw_lineCfg (sp : SpotId) : (s.withdraw sp).lineCfg = s.lineCfg := rfl
@[simp] theorem State.withdraw_lineUp (sp : SpotId) : (s.withdraw sp).lineUp = s.lineUp := rfl
@[simp] theorem State.withdraw_closeDown (sp : SpotId) : (s.withdraw sp).closeDown = s.closeDown := rfl
@[simp] theorem State.withdraw_linkCfg (sp : SpotId) : (s.withdraw sp).linkCfg = s.linkCfg := rfl
@[simp] theorem State.withdraw_scaling (sp : SpotId) : (s.withdraw sp).scaling = s.scaling := rfl
@[simp] theorem State.withdraw_unitMask (sp : SpotId) : (s.withdraw sp).unitMask = s.unitMask := rfl
@[simp] theorem State.withdraw_spotMask (sp : SpotId) : (s.withdraw sp).spotMask = s.spotMask := rfl
@[simp] theorem State.withdraw_lock (sp : SpotId) : (s.withdraw sp).lock = s.lock := rfl
@[simp] theorem State.withdraw_clock (sp : SpotId) : (s.withdraw sp).clock = s.clock := rfl
@[simp] theorem State.withdraw_spots (sp : SpotId) : (s.withdraw sp).spots = s.spots := rfl
@[simp] theorem State.withdraw_vessels (sp : SpotId) : (s.withdraw sp).vessels = s.vessels := rfl
@[simp] theorem State.withdraw_comps (sp : SpotId) : (s.withdraw sp).comps = s.comps := rfl
@[simp] theorem State.withdraw_lines (sp : SpotId) : (s.withdraw sp).lines = s.lines := rfl
@[simp] theorem State.withdraw_analog (sp : SpotId) : (s.withdraw sp).analog = s.analog := rfl
@[simp] theorem State.withdraw_bypasses (sp : SpotId) : (s.withdraw sp).bypasses = s.bypasses := rfl
@[simp] theorem State.withdraw_siteTrip (sp : SpotId) : (s.withdraw sp).siteTrip = s.siteTrip := rfl
@[simp] theorem State.withdraw_tickets (sp : SpotId) : (s.withdraw sp).tickets = s.tickets := rfl
@[simp] theorem State.withdraw_ticketCounter (sp : SpotId) : (s.withdraw sp).ticketCounter = s.ticketCounter := rfl
@[simp] theorem State.withdraw_pendingOrder (sp : SpotId) : (s.withdraw sp).pendingOrder = s.pendingOrder := rfl
@[simp] theorem State.withdraw_links (sp : SpotId) : (s.withdraw sp).links = s.links := rfl
@[simp] theorem State.withdraw_failures (sp : SpotId) : (s.withdraw sp).failures = s.failures := rfl
@[simp] theorem State.withdraw_lockout (sp : SpotId) : (s.withdraw sp).lockout = s.lockout := rfl
@[simp] theorem State.withdraw_latches (sp : SpotId) : (s.withdraw sp).latches = s.latches := rfl
@[simp] theorem State.withdraw_pending (sp : SpotId) : (s.withdraw sp).pending = s.pending := rfl
@[simp] theorem State.withdraw_freeCount (sp : SpotId) : (s.withdraw sp).freeCount = s.freeCount := rfl

/-! ### `State.leavePending` -/

@[simp] theorem State.leavePending_powered (sp : SpotId) : (s.leavePending sp).powered = s.powered := rfl
@[simp] theorem State.leavePending_unit (sp : SpotId) : (s.leavePending sp).unit = s.unit := rfl
@[simp] theorem State.leavePending_spotCfg (sp : SpotId) : (s.leavePending sp).spotCfg = s.spotCfg := rfl
@[simp] theorem State.leavePending_products (sp : SpotId) : (s.leavePending sp).products = s.products := rfl
@[simp] theorem State.leavePending_vesselCfg (sp : SpotId) : (s.leavePending sp).vesselCfg = s.vesselCfg := rfl
@[simp] theorem State.leavePending_compCfg (sp : SpotId) : (s.leavePending sp).compCfg = s.compCfg := rfl
@[simp] theorem State.leavePending_compService (sp : SpotId) : (s.leavePending sp).compService = s.compService := rfl
@[simp] theorem State.leavePending_lineCfg (sp : SpotId) : (s.leavePending sp).lineCfg = s.lineCfg := rfl
@[simp] theorem State.leavePending_lineUp (sp : SpotId) : (s.leavePending sp).lineUp = s.lineUp := rfl
@[simp] theorem State.leavePending_closeDown (sp : SpotId) : (s.leavePending sp).closeDown = s.closeDown := rfl
@[simp] theorem State.leavePending_linkCfg (sp : SpotId) : (s.leavePending sp).linkCfg = s.linkCfg := rfl
@[simp] theorem State.leavePending_scaling (sp : SpotId) : (s.leavePending sp).scaling = s.scaling := rfl
@[simp] theorem State.leavePending_unitMask (sp : SpotId) : (s.leavePending sp).unitMask = s.unitMask := rfl
@[simp] theorem State.leavePending_spotMask (sp : SpotId) : (s.leavePending sp).spotMask = s.spotMask := rfl
@[simp] theorem State.leavePending_lock (sp : SpotId) : (s.leavePending sp).lock = s.lock := rfl
@[simp] theorem State.leavePending_clock (sp : SpotId) : (s.leavePending sp).clock = s.clock := rfl
@[simp] theorem State.leavePending_spots (sp : SpotId) : (s.leavePending sp).spots = s.spots := rfl
@[simp] theorem State.leavePending_vessels (sp : SpotId) : (s.leavePending sp).vessels = s.vessels := rfl
@[simp] theorem State.leavePending_comps (sp : SpotId) : (s.leavePending sp).comps = s.comps := rfl
@[simp] theorem State.leavePending_queue (sp : SpotId) : (s.leavePending sp).queue = s.queue := rfl
@[simp] theorem State.leavePending_lines (sp : SpotId) : (s.leavePending sp).lines = s.lines := rfl
@[simp] theorem State.leavePending_analog (sp : SpotId) : (s.leavePending sp).analog = s.analog := rfl
@[simp] theorem State.leavePending_bypasses (sp : SpotId) : (s.leavePending sp).bypasses = s.bypasses := rfl
@[simp] theorem State.leavePending_siteTrip (sp : SpotId) : (s.leavePending sp).siteTrip = s.siteTrip := rfl
@[simp] theorem State.leavePending_tickets (sp : SpotId) : (s.leavePending sp).tickets = s.tickets := rfl
@[simp] theorem State.leavePending_ticketCounter (sp : SpotId) : (s.leavePending sp).ticketCounter = s.ticketCounter := rfl
@[simp] theorem State.leavePending_links (sp : SpotId) : (s.leavePending sp).links = s.links := rfl
@[simp] theorem State.leavePending_failures (sp : SpotId) : (s.leavePending sp).failures = s.failures := rfl
@[simp] theorem State.leavePending_lockout (sp : SpotId) : (s.leavePending sp).lockout = s.lockout := rfl
@[simp] theorem State.leavePending_latches (sp : SpotId) : (s.leavePending sp).latches = s.latches := rfl
@[simp] theorem State.leavePending_pending (sp : SpotId) : (s.leavePending sp).pending = s.pending := rfl
@[simp] theorem State.leavePending_freeCount (sp : SpotId) : (s.leavePending sp).freeCount = s.freeCount := rfl

/-! ### `State.joinPending` -/

@[simp] theorem State.joinPending_powered (sp : SpotId) (b : Bool) : (s.joinPending sp b).powered = s.powered := rfl
@[simp] theorem State.joinPending_unit (sp : SpotId) (b : Bool) : (s.joinPending sp b).unit = s.unit := rfl
@[simp] theorem State.joinPending_spotCfg (sp : SpotId) (b : Bool) : (s.joinPending sp b).spotCfg = s.spotCfg := rfl
@[simp] theorem State.joinPending_products (sp : SpotId) (b : Bool) : (s.joinPending sp b).products = s.products := rfl
@[simp] theorem State.joinPending_vesselCfg (sp : SpotId) (b : Bool) : (s.joinPending sp b).vesselCfg = s.vesselCfg := rfl
@[simp] theorem State.joinPending_compCfg (sp : SpotId) (b : Bool) : (s.joinPending sp b).compCfg = s.compCfg := rfl
@[simp] theorem State.joinPending_compService (sp : SpotId) (b : Bool) : (s.joinPending sp b).compService = s.compService := rfl
@[simp] theorem State.joinPending_lineCfg (sp : SpotId) (b : Bool) : (s.joinPending sp b).lineCfg = s.lineCfg := rfl
@[simp] theorem State.joinPending_lineUp (sp : SpotId) (b : Bool) : (s.joinPending sp b).lineUp = s.lineUp := rfl
@[simp] theorem State.joinPending_closeDown (sp : SpotId) (b : Bool) : (s.joinPending sp b).closeDown = s.closeDown := rfl
@[simp] theorem State.joinPending_linkCfg (sp : SpotId) (b : Bool) : (s.joinPending sp b).linkCfg = s.linkCfg := rfl
@[simp] theorem State.joinPending_scaling (sp : SpotId) (b : Bool) : (s.joinPending sp b).scaling = s.scaling := rfl
@[simp] theorem State.joinPending_unitMask (sp : SpotId) (b : Bool) : (s.joinPending sp b).unitMask = s.unitMask := rfl
@[simp] theorem State.joinPending_spotMask (sp : SpotId) (b : Bool) : (s.joinPending sp b).spotMask = s.spotMask := rfl
@[simp] theorem State.joinPending_lock (sp : SpotId) (b : Bool) : (s.joinPending sp b).lock = s.lock := rfl
@[simp] theorem State.joinPending_clock (sp : SpotId) (b : Bool) : (s.joinPending sp b).clock = s.clock := rfl
@[simp] theorem State.joinPending_spots (sp : SpotId) (b : Bool) : (s.joinPending sp b).spots = s.spots := rfl
@[simp] theorem State.joinPending_vessels (sp : SpotId) (b : Bool) : (s.joinPending sp b).vessels = s.vessels := rfl
@[simp] theorem State.joinPending_comps (sp : SpotId) (b : Bool) : (s.joinPending sp b).comps = s.comps := rfl
@[simp] theorem State.joinPending_queue (sp : SpotId) (b : Bool) : (s.joinPending sp b).queue = s.queue := rfl
@[simp] theorem State.joinPending_lines (sp : SpotId) (b : Bool) : (s.joinPending sp b).lines = s.lines := rfl
@[simp] theorem State.joinPending_analog (sp : SpotId) (b : Bool) : (s.joinPending sp b).analog = s.analog := rfl
@[simp] theorem State.joinPending_bypasses (sp : SpotId) (b : Bool) : (s.joinPending sp b).bypasses = s.bypasses := rfl
@[simp] theorem State.joinPending_siteTrip (sp : SpotId) (b : Bool) : (s.joinPending sp b).siteTrip = s.siteTrip := rfl
@[simp] theorem State.joinPending_tickets (sp : SpotId) (b : Bool) : (s.joinPending sp b).tickets = s.tickets := rfl
@[simp] theorem State.joinPending_ticketCounter (sp : SpotId) (b : Bool) : (s.joinPending sp b).ticketCounter = s.ticketCounter := rfl
@[simp] theorem State.joinPending_links (sp : SpotId) (b : Bool) : (s.joinPending sp b).links = s.links := rfl
@[simp] theorem State.joinPending_failures (sp : SpotId) (b : Bool) : (s.joinPending sp b).failures = s.failures := rfl
@[simp] theorem State.joinPending_lockout (sp : SpotId) (b : Bool) : (s.joinPending sp b).lockout = s.lockout := rfl
@[simp] theorem State.joinPending_latches (sp : SpotId) (b : Bool) : (s.joinPending sp b).latches = s.latches := rfl
@[simp] theorem State.joinPending_pending (sp : SpotId) (b : Bool) : (s.joinPending sp b).pending = s.pending := rfl
@[simp] theorem State.joinPending_freeCount (sp : SpotId) (b : Bool) : (s.joinPending sp b).freeCount = s.freeCount := rfl

/-! ### `State.markReady` -/

@[simp] theorem State.markReady_powered (sp : SpotId) : (s.markReady sp).powered = s.powered := rfl
@[simp] theorem State.markReady_unit (sp : SpotId) : (s.markReady sp).unit = s.unit := rfl
@[simp] theorem State.markReady_spotCfg (sp : SpotId) : (s.markReady sp).spotCfg = s.spotCfg := rfl
@[simp] theorem State.markReady_products (sp : SpotId) : (s.markReady sp).products = s.products := rfl
@[simp] theorem State.markReady_vesselCfg (sp : SpotId) : (s.markReady sp).vesselCfg = s.vesselCfg := rfl
@[simp] theorem State.markReady_compCfg (sp : SpotId) : (s.markReady sp).compCfg = s.compCfg := rfl
@[simp] theorem State.markReady_compService (sp : SpotId) : (s.markReady sp).compService = s.compService := rfl
@[simp] theorem State.markReady_lineCfg (sp : SpotId) : (s.markReady sp).lineCfg = s.lineCfg := rfl
@[simp] theorem State.markReady_lineUp (sp : SpotId) : (s.markReady sp).lineUp = s.lineUp := rfl
@[simp] theorem State.markReady_closeDown (sp : SpotId) : (s.markReady sp).closeDown = s.closeDown := rfl
@[simp] theorem State.markReady_linkCfg (sp : SpotId) : (s.markReady sp).linkCfg = s.linkCfg := rfl
@[simp] theorem State.markReady_scaling (sp : SpotId) : (s.markReady sp).scaling = s.scaling := rfl
@[simp] theorem State.markReady_unitMask (sp : SpotId) : (s.markReady sp).unitMask = s.unitMask := rfl
@[simp] theorem State.markReady_spotMask (sp : SpotId) : (s.markReady sp).spotMask = s.spotMask := rfl
@[simp] theorem State.markReady_lock (sp : SpotId) : (s.markReady sp).lock = s.lock := rfl
@[simp] theorem State.markReady_clock (sp : SpotId) : (s.markReady sp).clock = s.clock := rfl
@[simp] theorem State.markReady_spots (sp : SpotId) : (s.markReady sp).spots = s.spots := rfl
@[simp] theorem State.markReady_vessels (sp : SpotId) : (s.markReady sp).vessels = s.vessels := rfl
@[simp] theorem State.markReady_comps (sp : SpotId) : (s.markReady sp).comps = s.comps := rfl
@[simp] theorem State.markReady_queue (sp : SpotId) : (s.markReady sp).queue = s.queue := rfl
@[simp] theorem State.markReady_lines (sp : SpotId) : (s.markReady sp).lines = s.lines := rfl
@[simp] theorem State.markReady_analog (sp : SpotId) : (s.markReady sp).analog = s.analog := rfl
@[simp] theorem State.markReady_bypasses (sp : SpotId) : (s.markReady sp).bypasses = s.bypasses := rfl
@[simp] theorem State.markReady_siteTrip (sp : SpotId) : (s.markReady sp).siteTrip = s.siteTrip := rfl
@[simp] theorem State.markReady_tickets (sp : SpotId) : (s.markReady sp).tickets = s.tickets := rfl
@[simp] theorem State.markReady_ticketCounter (sp : SpotId) : (s.markReady sp).ticketCounter = s.ticketCounter := rfl
@[simp] theorem State.markReady_links (sp : SpotId) : (s.markReady sp).links = s.links := rfl
@[simp] theorem State.markReady_failures (sp : SpotId) : (s.markReady sp).failures = s.failures := rfl
@[simp] theorem State.markReady_lockout (sp : SpotId) : (s.markReady sp).lockout = s.lockout := rfl
@[simp] theorem State.markReady_latches (sp : SpotId) : (s.markReady sp).latches = s.latches := rfl
@[simp] theorem State.markReady_pending (sp : SpotId) : (s.markReady sp).pending = s.pending := rfl
@[simp] theorem State.markReady_freeCount (sp : SpotId) : (s.markReady sp).freeCount = s.freeCount := rfl

/-! ### `State.addTicket` -/

@[simp] theorem State.addTicket_powered (t : Ticket) : (s.addTicket t).powered = s.powered := rfl
@[simp] theorem State.addTicket_unit (t : Ticket) : (s.addTicket t).unit = s.unit := rfl
@[simp] theorem State.addTicket_spotCfg (t : Ticket) : (s.addTicket t).spotCfg = s.spotCfg := rfl
@[simp] theorem State.addTicket_products (t : Ticket) : (s.addTicket t).products = s.products := rfl
@[simp] theorem State.addTicket_vesselCfg (t : Ticket) : (s.addTicket t).vesselCfg = s.vesselCfg := rfl
@[simp] theorem State.addTicket_compCfg (t : Ticket) : (s.addTicket t).compCfg = s.compCfg := rfl
@[simp] theorem State.addTicket_compService (t : Ticket) : (s.addTicket t).compService = s.compService := rfl
@[simp] theorem State.addTicket_lineCfg (t : Ticket) : (s.addTicket t).lineCfg = s.lineCfg := rfl
@[simp] theorem State.addTicket_lineUp (t : Ticket) : (s.addTicket t).lineUp = s.lineUp := rfl
@[simp] theorem State.addTicket_closeDown (t : Ticket) : (s.addTicket t).closeDown = s.closeDown := rfl
@[simp] theorem State.addTicket_linkCfg (t : Ticket) : (s.addTicket t).linkCfg = s.linkCfg := rfl
@[simp] theorem State.addTicket_scaling (t : Ticket) : (s.addTicket t).scaling = s.scaling := rfl
@[simp] theorem State.addTicket_unitMask (t : Ticket) : (s.addTicket t).unitMask = s.unitMask := rfl
@[simp] theorem State.addTicket_spotMask (t : Ticket) : (s.addTicket t).spotMask = s.spotMask := rfl
@[simp] theorem State.addTicket_lock (t : Ticket) : (s.addTicket t).lock = s.lock := rfl
@[simp] theorem State.addTicket_clock (t : Ticket) : (s.addTicket t).clock = s.clock := rfl
@[simp] theorem State.addTicket_spots (t : Ticket) : (s.addTicket t).spots = s.spots := rfl
@[simp] theorem State.addTicket_vessels (t : Ticket) : (s.addTicket t).vessels = s.vessels := rfl
@[simp] theorem State.addTicket_comps (t : Ticket) : (s.addTicket t).comps = s.comps := rfl
@[simp] theorem State.addTicket_queue (t : Ticket) : (s.addTicket t).queue = s.queue := rfl
@[simp] theorem State.addTicket_lines (t : Ticket) : (s.addTicket t).lines = s.lines := rfl
@[simp] theorem State.addTicket_analog (t : Ticket) : (s.addTicket t).analog = s.analog := rfl
@[simp] theorem State.addTicket_bypasses (t : Ticket) : (s.addTicket t).bypasses = s.bypasses := rfl
@[simp] theorem State.addTicket_siteTrip (t : Ticket) : (s.addTicket t).siteTrip = s.siteTrip := rfl
@[simp] theorem State.addTicket_pendingOrder (t : Ticket) : (s.addTicket t).pendingOrder = s.pendingOrder := rfl
@[simp] theorem State.addTicket_links (t : Ticket) : (s.addTicket t).links = s.links := rfl
@[simp] theorem State.addTicket_failures (t : Ticket) : (s.addTicket t).failures = s.failures := rfl
@[simp] theorem State.addTicket_lockout (t : Ticket) : (s.addTicket t).lockout = s.lockout := rfl
@[simp] theorem State.addTicket_latches (t : Ticket) : (s.addTicket t).latches = s.latches := rfl
@[simp] theorem State.addTicket_pending (t : Ticket) : (s.addTicket t).pending = s.pending := rfl
@[simp] theorem State.addTicket_freeCount (t : Ticket) : (s.addTicket t).freeCount = s.freeCount := rfl

/-! ### Timers that have run out: the one condition under which each expiry acts (log 13) -/

@[simp] theorem timerDue_iff (t : Timer) : timerDue t = true ↔ t = some 0 := by simp [timerDue]

@[simp] theorem TempHold.due_iff (h : TempHold) : h.due = true ↔ h = .held 0 := by simp [TempHold.due]

@[simp] theorem Line.acceptable_iff (l : Line) : l.acceptable = true ↔ ∃ m, l.candidate = some (0, m) := by
  unfold Line.acceptable
  match l.candidate with
  | none => simp
  | some (n, m) => simp

@[simp] theorem Driver.halfDone_iff (cfg : SpotCfg) (d : Driver) :
    d.halfDone cfg = true ↔ ∃ n, d.dwell = some n ∧ 2 * n ≤ seconds cfg.dwell := by
  unfold Driver.halfDone
  split <;> simp_all

@[simp] theorem Vessel.ageDue_iff (v : Vessel) :
    v.ageDue = true ↔ v.stale = false ∧ ∃ ms, v.age = some ms ∧ seconds v.ageLimit ≤ ms := by
  unfold Vessel.ageDue
  split <;> simp_all

@[simp] theorem Comp.timing_iff (c : Comp) (states : List CompState) :
    c.timing states = true ↔ c.timer = some 0 ∧ c.state ∈ states := by simp [Comp.timing]

theorem State.bypassOver_iff (s : State) (sp : SpotId) (f : BypassFn) :
    s.bypassOver sp f = true ↔ ∃ b, s.bypassOf sp f = some b ∧ b.remaining = 0 := by
  unfold State.bypassOver
  split <;> simp_all

/-! ### The overrun mark, the changeover in place, the outputs -/

@[simp] theorem Spot.noteOverrun_state (p : Spot) : p.noteOverrun.state = p.state := rfl
@[simp] theorem Spot.noteOverrun_seat (p : Spot) : p.noteOverrun.seat = p.seat := rfl
@[simp] theorem Spot.noteOverrun_completed (p : Spot) : p.noteOverrun.completed = p.completed := rfl
@[simp] theorem Spot.noteOverrun_proving (p : Spot) : p.noteOverrun.proving = p.proving := rfl
@[simp] theorem Spot.noteOverrun_ullageWait (p : Spot) : p.noteOverrun.ullageWait = p.ullageWait := rfl
@[simp] theorem Spot.noteOverrun_meter (p : Spot) : p.noteOverrun.meter = p.meter := rfl
@[simp] theorem Spot.noteOverrun_driver (p : Spot) : p.noteOverrun.driver = p.driver := rfl
@[simp] theorem Spot.noteOverrun_valves (p : Spot) : p.noteOverrun.valves = p.valves := rfl
@[simp] theorem Spot.noteOverrun_engine (p : Spot) : p.noteOverrun.engine = p.engine := rfl
@[simp] theorem Spot.noteOverrun_faultedValve (p : Spot) : p.noteOverrun.faultedValve = p.faultedValve := rfl
@[simp] theorem Spot.noteOverrun_snapshot (p : Spot) : p.noteOverrun.snapshot = p.snapshot := rfl
@[simp] theorem Spot.noteOverrun_record (p : Spot) :
    p.noteOverrun.record = p.record.map fun r => { r with overrunLatched := true } := rfl

/-- R79: an in-place changeover is passed through where the compressor is, or is proven, at PULL, and otherwise is timed. -/
theorem Comp.changeOver_cases (cfg : CompCfg) (proven : Option Direction) (c : Comp) :
    (c.changeOver cfg proven).commanded = .pull ∧
      ((c.changeOver cfg proven).state = .runPull ∧ (c.changeOver cfg proven).timer = none ∧
          (c.position = .pull ∨ proven = some .pull) ∨
        (c.changeOver cfg proven).state = .changeoverInPlace ∧
          (c.changeOver cfg proven).timer = some (seconds cfg.changeover) ∧ c.position ≠ .pull ∧ proven ≠ some .pull) := by
  unfold Comp.changeOver
  by_cases h : c.position = .pull ∨ proven = some .pull
  · simp [h]
  · simp only [not_or] at h
    simp [h]

@[simp] theorem valveAt_valveIndex (v : Valve) : valveAt (valveIndex v) = v := by cases v <;> rfl

/-- R140: five outputs to a spot, in the order of its valves. -/
theorem outputAt_valve (n : Fin 48) (sp : SpotId) (v : Valve) (h : n.val = 5 * sp.val + (valveIndex v).val) :
    outputAt n = .valve sp v := by
  revert n sp
  cases v <;> decide

end Sys2Proof.Machine
end

