-- ==== Sys2Proof/Laws/Links.lean ====
section
/-! SUPPORT. Reads after the updates of a link: nothing but the links changes. -/

namespace Sys2Proof.Machine

variable (s : State)

/-! ### `State.receive` -/

@[simp] theorem State.receive_powered (l : Link) (rx : RxState) : (s.receive l rx).powered = s.powered := rfl
@[simp] theorem State.receive_unit (l : Link) (rx : RxState) : (s.receive l rx).unit = s.unit := rfl
@[simp] theorem State.receive_spotCfg (l : Link) (rx : RxState) : (s.receive l rx).spotCfg = s.spotCfg := rfl
@[simp] theorem State.receive_products (l : Link) (rx : RxState) : (s.receive l rx).products = s.products := rfl
@[simp] theorem State.receive_vesselCfg (l : Link) (rx : RxState) : (s.receive l rx).vesselCfg = s.vesselCfg := rfl
@[simp] theorem State.receive_compCfg (l : Link) (rx : RxState) : (s.receive l rx).compCfg = s.compCfg := rfl
@[simp] theorem State.receive_compService (l : Link) (rx : RxState) : (s.receive l rx).compService = s.compService := rfl
@[simp] theorem State.receive_lineCfg (l : Link) (rx : RxState) : (s.receive l rx).lineCfg = s.lineCfg := rfl
@[simp] theorem State.receive_lineUp (l : Link) (rx : RxState) : (s.receive l rx).lineUp = s.lineUp := rfl
@[simp] theorem State.receive_closeDown (l : Link) (rx : RxState) : (s.receive l rx).closeDown = s.closeDown := rfl
@[simp] theorem State.receive_linkCfg (l : Link) (rx : RxState) : (s.receive l rx).linkCfg = s.linkCfg := rfl
@[simp] theorem State.receive_scaling (l : Link) (rx : RxState) : (s.receive l rx).scaling = s.scaling := rfl
@[simp] theorem State.receive_unitMask (l : Link) (rx : RxState) : (s.receive l rx).unitMask = s.unitMask := rfl
@[simp] theorem State.receive_spotMask (l : Link) (rx : RxState) : (s.receive l rx).spotMask = s.spotMask := rfl
@[simp] theorem State.receive_lock (l : Link) (rx : RxState) : (s.receive l rx).lock = s.lock := rfl
@[simp] theorem State.receive_clock (l : Link) (rx : RxState) : (s.receive l rx).clock = s.clock := rfl
@[simp] theorem State.receive_spots (l : Link) (rx : RxState) : (s.receive l rx).spots = s.spots := rfl
@[simp] theorem State.receive_vessels (l : Link) (rx : RxState) : (s.receive l rx).vessels = s.vessels := rfl
@[simp] theorem State.receive_comps (l : Link) (rx : RxState) : (s.receive l rx).comps = s.comps := rfl
@[simp] theorem State.receive_queue (l : Link) (rx : RxState) : (s.receive l rx).queue = s.queue := rfl
@[simp] theorem State.receive_lines (l : Link) (rx : RxState) : (s.receive l rx).lines = s.lines := rfl
@[simp] theorem State.receive_analog (l : Link) (rx : RxState) : (s.receive l rx).analog = s.analog := rfl
@[simp] theorem State.receive_bypasses (l : Link) (rx : RxState) : (s.receive l rx).bypasses = s.bypasses := rfl
@[simp] theorem State.receive_siteTrip (l : Link) (rx : RxState) : (s.receive l rx).siteTrip = s.siteTrip := rfl
@[simp] theorem State.receive_tickets (l : Link) (rx : RxState) : (s.receive l rx).tickets = s.tickets := rfl
@[simp] theorem State.receive_ticketCounter (l : Link) (rx : RxState) : (s.receive l rx).ticketCounter = s.ticketCounter := rfl
@[simp] theorem State.receive_pendingOrder (l : Link) (rx : RxState) : (s.receive l rx).pendingOrder = s.pendingOrder := rfl
@[simp] theorem State.receive_failures (l : Link) (rx : RxState) : (s.receive l rx).failures = s.failures := rfl
@[simp] theorem State.receive_lockout (l : Link) (rx : RxState) : (s.receive l rx).lockout = s.lockout := rfl
@[simp] theorem State.receive_latches (l : Link) (rx : RxState) : (s.receive l rx).latches = s.latches := rfl
@[simp] theorem State.receive_pending (l : Link) (rx : RxState) : (s.receive l rx).pending = s.pending := rfl
@[simp] theorem State.receive_freeCount (l : Link) (rx : RxState) : (s.receive l rx).freeCount = s.freeCount := rfl

/-! ### `State.taken` -/

@[simp] theorem State.taken_powered (l : Link) : (s.taken l).powered = s.powered := rfl
@[simp] theorem State.taken_unit (l : Link) : (s.taken l).unit = s.unit := rfl
@[simp] theorem State.taken_spotCfg (l : Link) : (s.taken l).spotCfg = s.spotCfg := rfl
@[simp] theorem State.taken_products (l : Link) : (s.taken l).products = s.products := rfl
@[simp] theorem State.taken_vesselCfg (l : Link) : (s.taken l).vesselCfg = s.vesselCfg := rfl
@[simp] theorem State.taken_compCfg (l : Link) : (s.taken l).compCfg = s.compCfg := rfl
@[simp] theorem State.taken_compService (l : Link) : (s.taken l).compService = s.compService := rfl
@[simp] theorem State.taken_lineCfg (l : Link) : (s.taken l).lineCfg = s.lineCfg := rfl
@[simp] theorem State.taken_lineUp (l : Link) : (s.taken l).lineUp = s.lineUp := rfl
@[simp] theorem State.taken_closeDown (l : Link) : (s.taken l).closeDown = s.closeDown := rfl
@[simp] theorem State.taken_linkCfg (l : Link) : (s.taken l).linkCfg = s.linkCfg := rfl
@[simp] theorem State.taken_scaling (l : Link) : (s.taken l).scaling = s.scaling := rfl
@[simp] theorem State.taken_unitMask (l : Link) : (s.taken l).unitMask = s.unitMask := rfl
@[simp] theorem State.taken_spotMask (l : Link) : (s.taken l).spotMask = s.spotMask := rfl
@[simp] theorem State.taken_lock (l : Link) : (s.taken l).lock = s.lock := rfl
@[simp] theorem State.taken_clock (l : Link) : (s.taken l).clock = s.clock := rfl
@[simp] theorem State.taken_spots (l : Link) : (s.taken l).spots = s.spots := rfl
@[simp] theorem State.taken_vessels (l : Link) : (s.taken l).vessels = s.vessels := rfl
@[simp] theorem State.taken_comps (l : Link) : (s.taken l).comps = s.comps := rfl
@[simp] theorem State.taken_queue (l : Link) : (s.taken l).queue = s.queue := rfl
@[simp] theorem State.taken_lines (l : Link) : (s.taken l).lines = s.lines := rfl
@[simp] theorem State.taken_analog (l : Link) : (s.taken l).analog = s.analog := rfl
@[simp] theorem State.taken_bypasses (l : Link) : (s.taken l).bypasses = s.bypasses := rfl
@[simp] theorem State.taken_siteTrip (l : Link) : (s.taken l).siteTrip = s.siteTrip := rfl
@[simp] theorem State.taken_tickets (l : Link) : (s.taken l).tickets = s.tickets := rfl
@[simp] theorem State.taken_ticketCounter (l : Link) : (s.taken l).ticketCounter = s.ticketCounter := rfl
@[simp] theorem State.taken_pendingOrder (l : Link) : (s.taken l).pendingOrder = s.pendingOrder := rfl
@[simp] theorem State.taken_failures (l : Link) : (s.taken l).failures = s.failures := rfl
@[simp] theorem State.taken_lockout (l : Link) : (s.taken l).lockout = s.lockout := rfl
@[simp] theorem State.taken_latches (l : Link) : (s.taken l).latches = s.latches := rfl
@[simp] theorem State.taken_pending (l : Link) : (s.taken l).pending = s.pending := rfl
@[simp] theorem State.taken_freeCount (l : Link) : (s.taken l).freeCount = s.freeCount := rfl

/-! ### `State.reply` -/

@[simp] theorem State.reply_powered (l : Link) (tag kind : Byte) (a : Answer) : (s.reply l tag kind a).powered = s.powered := rfl
@[simp] theorem State.reply_unit (l : Link) (tag kind : Byte) (a : Answer) : (s.reply l tag kind a).unit = s.unit := rfl
@[simp] theorem State.reply_spotCfg (l : Link) (tag kind : Byte) (a : Answer) : (s.reply l tag kind a).spotCfg = s.spotCfg := rfl
@[simp] theorem State.reply_products (l : Link) (tag kind : Byte) (a : Answer) : (s.reply l tag kind a).products = s.products := rfl
@[simp] theorem State.reply_vesselCfg (l : Link) (tag kind : Byte) (a : Answer) : (s.reply l tag kind a).vesselCfg = s.vesselCfg := rfl
@[simp] theorem State.reply_compCfg (l : Link) (tag kind : Byte) (a : Answer) : (s.reply l tag kind a).compCfg = s.compCfg := rfl
@[simp] theorem State.reply_compService (l : Link) (tag kind : Byte) (a : Answer) : (s.reply l tag kind a).compService = s.compService := rfl
@[simp] theorem State.reply_lineCfg (l : Link) (tag kind : Byte) (a : Answer) : (s.reply l tag kind a).lineCfg = s.lineCfg := rfl
@[simp] theorem State.reply_lineUp (l : Link) (tag kind : Byte) (a : Answer) : (s.reply l tag kind a).lineUp = s.lineUp := rfl
@[simp] theorem State.reply_closeDown (l : Link) (tag kind : Byte) (a : Answer) : (s.reply l tag kind a).closeDown = s.closeDown := rfl
@[simp] theorem State.reply_linkCfg (l : Link) (tag kind : Byte) (a : Answer) : (s.reply l tag kind a).linkCfg = s.linkCfg := rfl
@[simp] theorem State.reply_scaling (l : Link) (tag kind : Byte) (a : Answer) : (s.reply l tag kind a).scaling = s.scaling := rfl
@[simp] theorem State.reply_unitMask (l : Link) (tag kind : Byte) (a : Answer) : (s.reply l tag kind a).unitMask = s.unitMask := rfl
@[simp] theorem State.reply_spotMask (l : Link) (tag kind : Byte) (a : Answer) : (s.reply l tag kind a).spotMask = s.spotMask := rfl
@[simp] theorem State.reply_lock (l : Link) (tag kind : Byte) (a : Answer) : (s.reply l tag kind a).lock = s.lock := rfl
@[simp] theorem State.reply_clock (l : Link) (tag kind : Byte) (a : Answer) : (s.reply l tag kind a).clock = s.clock := rfl
@[simp] theorem State.reply_spots (l : Link) (tag kind : Byte) (a : Answer) : (s.reply l tag kind a).spots = s.spots := rfl
@[simp] theorem State.reply_vessels (l : Link) (tag kind : Byte) (a : Answer) : (s.reply l tag kind a).vessels = s.vessels := rfl
@[simp] theorem State.reply_comps (l : Link) (tag kind : Byte) (a : Answer) : (s.reply l tag kind a).comps = s.comps := rfl
@[simp] theorem State.reply_queue (l : Link) (tag kind : Byte) (a : Answer) : (s.reply l tag kind a).queue = s.queue := rfl
@[simp] theorem State.reply_lines (l : Link) (tag kind : Byte) (a : Answer) : (s.reply l tag kind a).lines = s.lines := rfl
@[simp] theorem State.reply_analog (l : Link) (tag kind : Byte) (a : Answer) : (s.reply l tag kind a).analog = s.analog := rfl
@[simp] theorem State.reply_bypasses (l : Link) (tag kind : Byte) (a : Answer) : (s.reply l tag kind a).bypasses = s.bypasses := rfl
@[simp] theorem State.reply_siteTrip (l : Link) (tag kind : Byte) (a : Answer) : (s.reply l tag kind a).siteTrip = s.siteTrip := rfl
@[simp] theorem State.reply_tickets (l : Link) (tag kind : Byte) (a : Answer) : (s.reply l tag kind a).tickets = s.tickets := rfl
@[simp] theorem State.reply_ticketCounter (l : Link) (tag kind : Byte) (a : Answer) : (s.reply l tag kind a).ticketCounter = s.ticketCounter := rfl
@[simp] theorem State.reply_pendingOrder (l : Link) (tag kind : Byte) (a : Answer) : (s.reply l tag kind a).pendingOrder = s.pendingOrder := rfl
@[simp] theorem State.reply_failures (l : Link) (tag kind : Byte) (a : Answer) : (s.reply l tag kind a).failures = s.failures := rfl
@[simp] theorem State.reply_lockout (l : Link) (tag kind : Byte) (a : Answer) : (s.reply l tag kind a).lockout = s.lockout := rfl
@[simp] theorem State.reply_latches (l : Link) (tag kind : Byte) (a : Answer) : (s.reply l tag kind a).latches = s.latches := rfl
@[simp] theorem State.reply_pending (l : Link) (tag kind : Byte) (a : Answer) : (s.reply l tag kind a).pending = s.pending := rfl
@[simp] theorem State.reply_freeCount (l : Link) (tag kind : Byte) (a : Answer) : (s.reply l tag kind a).freeCount = s.freeCount := rfl

/-! ### `State.replied` -/

@[simp] theorem State.replied_powered (l : Link) (tag kind : Byte) (code : ResultCode) : (s.replied l tag kind code).powered = s.powered := rfl
@[simp] theorem State.replied_unit (l : Link) (tag kind : Byte) (code : ResultCode) : (s.replied l tag kind code).unit = s.unit := rfl
@[simp] theorem State.replied_spotCfg (l : Link) (tag kind : Byte) (code : ResultCode) : (s.replied l tag kind code).spotCfg = s.spotCfg := rfl
@[simp] theorem State.replied_products (l : Link) (tag kind : Byte) (code : ResultCode) : (s.replied l tag kind code).products = s.products := rfl
@[simp] theorem State.replied_vesselCfg (l : Link) (tag kind : Byte) (code : ResultCode) : (s.replied l tag kind code).vesselCfg = s.vesselCfg := rfl
@[simp] theorem State.replied_compCfg (l : Link) (tag kind : Byte) (code : ResultCode) : (s.replied l tag kind code).compCfg = s.compCfg := rfl
@[simp] theorem State.replied_compService (l : Link) (tag kind : Byte) (code : ResultCode) : (s.replied l tag kind code).compService = s.compService := rfl
@[simp] theorem State.replied_lineCfg (l : Link) (tag kind : Byte) (code : ResultCode) : (s.replied l tag kind code).lineCfg = s.lineCfg := rfl
@[simp] theorem State.replied_lineUp (l : Link) (tag kind : Byte) (code : ResultCode) : (s.replied l tag kind code).lineUp = s.lineUp := rfl
@[simp] theorem State.replied_closeDown (l : Link) (tag kind : Byte) (code : ResultCode) : (s.replied l tag kind code).closeDown = s.closeDown := rfl
@[simp] theorem State.replied_linkCfg (l : Link) (tag kind : Byte) (code : ResultCode) : (s.replied l tag kind code).linkCfg = s.linkCfg := rfl
@[simp] theorem State.replied_scaling (l : Link) (tag kind : Byte) (code : ResultCode) : (s.replied l tag kind code).scaling = s.scaling := rfl
@[simp] theorem State.replied_unitMask (l : Link) (tag kind : Byte) (code : ResultCode) : (s.replied l tag kind code).unitMask = s.unitMask := rfl
@[simp] theorem State.replied_spotMask (l : Link) (tag kind : Byte) (code : ResultCode) : (s.replied l tag kind code).spotMask = s.spotMask := rfl
@[simp] theorem State.replied_lock (l : Link) (tag kind : Byte) (code : ResultCode) : (s.replied l tag kind code).lock = s.lock := rfl
@[simp] theorem State.replied_clock (l : Link) (tag kind : Byte) (code : ResultCode) : (s.replied l tag kind code).clock = s.clock := rfl
@[simp] theorem State.replied_spots (l : Link) (tag kind : Byte) (code : ResultCode) : (s.replied l tag kind code).spots = s.spots := rfl
@[simp] theorem State.replied_vessels (l : Link) (tag kind : Byte) (code : ResultCode) : (s.replied l tag kind code).vessels = s.vessels := rfl
@[simp] theorem State.replied_comps (l : Link) (tag kind : Byte) (code : ResultCode) : (s.replied l tag kind code).comps = s.comps := rfl
@[simp] theorem State.replied_queue (l : Link) (tag kind : Byte) (code : ResultCode) : (s.replied l tag kind code).queue = s.queue := rfl
@[simp] theorem State.replied_lines (l : Link) (tag kind : Byte) (code : ResultCode) : (s.replied l tag kind code).lines = s.lines := rfl
@[simp] theorem State.replied_analog (l : Link) (tag kind : Byte) (code : ResultCode) : (s.replied l tag kind code).analog = s.analog := rfl
@[simp] theorem State.replied_bypasses (l : Link) (tag kind : Byte) (code : ResultCode) : (s.replied l tag kind code).bypasses = s.bypasses := rfl
@[simp] theorem State.replied_siteTrip (l : Link) (tag kind : Byte) (code : ResultCode) : (s.replied l tag kind code).siteTrip = s.siteTrip := rfl
@[simp] theorem State.replied_tickets (l : Link) (tag kind : Byte) (code : ResultCode) : (s.replied l tag kind code).tickets = s.tickets := rfl
@[simp] theorem State.replied_ticketCounter (l : Link) (tag kind : Byte) (code : ResultCode) : (s.replied l tag kind code).ticketCounter = s.ticketCounter := rfl
@[simp] theorem State.replied_pendingOrder (l : Link) (tag kind : Byte) (code : ResultCode) : (s.replied l tag kind code).pendingOrder = s.pendingOrder := rfl
@[simp] theorem State.replied_failures (l : Link) (tag kind : Byte) (code : ResultCode) : (s.replied l tag kind code).failures = s.failures := rfl
@[simp] theorem State.replied_lockout (l : Link) (tag kind : Byte) (code : ResultCode) : (s.replied l tag kind code).lockout = s.lockout := rfl
@[simp] theorem State.replied_latches (l : Link) (tag kind : Byte) (code : ResultCode) : (s.replied l tag kind code).latches = s.latches := rfl
@[simp] theorem State.replied_pending (l : Link) (tag kind : Byte) (code : ResultCode) : (s.replied l tag kind code).pending = s.pending := rfl
@[simp] theorem State.replied_freeCount (l : Link) (tag kind : Byte) (code : ResultCode) : (s.replied l tag kind code).freeCount = s.freeCount := rfl

end Sys2Proof.Machine
end

