-- ==== Sys2Proof/Laws/Frames.lean ====
section
/-! SUPPORT. What each shared operation leaves alone: a lemma for each part of the state that reactions change and the
operation does not, and one for everything that no reaction changes (`State.base`). -/

namespace Sys2Proof.Machine

variable (s : State)

/-! ### The elementary updates -/

@[simp] theorem State.modSpot_base (sp : SpotId) (f : Spot → Spot) : (s.modSpot sp f).base = s.base := rfl
@[simp] theorem State.modVessel_base (v : VesselId) (f : Vessel → Vessel) : (s.modVessel v f).base = s.base := rfl
@[simp] theorem State.modComp_base (c : CompId) (f : Comp → Comp) : (s.modComp c f).base = s.base := rfl
@[simp] theorem State.latchSpot_base (sp : SpotId) (k : SpotLatch) : (s.latchSpot sp k).base = s.base := rfl
@[simp] theorem State.latchSiteTrip_base : (s.latchSiteTrip).base = s.base := rfl
@[simp] theorem State.latchVesselStale_base (v : VesselId) : (s.latchVesselStale v).base = s.base := rfl
@[simp] theorem State.latchVesselHigh_base (v : VesselId) : (s.latchVesselHigh v).base = s.base := rfl
@[simp] theorem State.latchCompFault_base (c : CompId) : (s.latchCompFault c).base = s.base := rfl
@[simp] theorem State.latchTicketReady_base : (s.latchTicketReady).base = s.base := rfl
@[simp] theorem State.latchTicketQueueFull_base : (s.latchTicketQueueFull).base = s.base := rfl
@[simp] theorem State.latchInputEdge_base (f : FieldFn) : (s.latchInputEdge f).base = s.base := rfl
@[simp] theorem State.latchLinkOverrun_base (l : Link) : (s.latchLinkOverrun l).base = s.base := rfl
@[simp] theorem State.latchAuthLockout_base : (s.latchAuthLockout).base = s.base := rfl
@[simp] theorem State.latchRestarted_base : (s.latchRestarted).base = s.base := rfl
@[simp] theorem State.joinTail_base (sp : SpotId) (d : Direction) : (s.joinTail sp d).base = s.base := rfl
@[simp] theorem State.joinHead_base (sp : SpotId) (d : Direction) : (s.joinHead sp d).base = s.base := rfl
@[simp] theorem State.withdraw_base (sp : SpotId) : (s.withdraw sp).base = s.base := rfl
@[simp] theorem State.leavePending_base (sp : SpotId) : (s.leavePending sp).base = s.base := rfl
@[simp] theorem State.joinPending_base (sp : SpotId) (b : Bool) : (s.joinPending sp b).base = s.base := rfl
@[simp] theorem State.markReady_base (sp : SpotId) : (s.markReady sp).base = s.base := rfl
@[simp] theorem State.addTicket_base (t : Ticket) : (s.addTicket t).base = s.base := rfl

/-! ### `State.demand` -/

@[simp] theorem State.demand_vessels (sp : SpotId) (v : Valve) (a : Action) (o : StrokeOwner) : (s.demand sp v a o).vessels = s.vessels := by
  unfold State.demand; split; rfl; split <;> rfl
@[simp] theorem State.demand_comps (sp : SpotId) (v : Valve) (a : Action) (o : StrokeOwner) : (s.demand sp v a o).comps = s.comps := by
  unfold State.demand; split; rfl; split <;> rfl
@[simp] theorem State.demand_queue (sp : SpotId) (v : Valve) (a : Action) (o : StrokeOwner) : (s.demand sp v a o).queue = s.queue := by
  unfold State.demand; split; rfl; split <;> rfl
@[simp] theorem State.demand_siteTrip (sp : SpotId) (v : Valve) (a : Action) (o : StrokeOwner) : (s.demand sp v a o).siteTrip = s.siteTrip := by
  unfold State.demand; split; rfl; split <;> rfl
@[simp] theorem State.demand_tickets (sp : SpotId) (v : Valve) (a : Action) (o : StrokeOwner) : (s.demand sp v a o).tickets = s.tickets := by
  unfold State.demand; split; rfl; split <;> rfl
@[simp] theorem State.demand_ticketCounter (sp : SpotId) (v : Valve) (a : Action) (o : StrokeOwner) : (s.demand sp v a o).ticketCounter = s.ticketCounter := by
  unfold State.demand; split; rfl; split <;> rfl
@[simp] theorem State.demand_pendingOrder (sp : SpotId) (v : Valve) (a : Action) (o : StrokeOwner) : (s.demand sp v a o).pendingOrder = s.pendingOrder := by
  unfold State.demand; split; rfl; split <;> rfl
@[simp] theorem State.demand_base (sp : SpotId) (v : Valve) (a : Action) (o : StrokeOwner) : (s.demand sp v a o).base = s.base := by
  unfold State.demand; split; rfl; split <;> rfl

/-! ### `State.deEnergise` -/

@[simp] theorem State.deEnergise_vessels (sp : SpotId) : (s.deEnergise sp).vessels = s.vessels := rfl
@[simp] theorem State.deEnergise_comps (sp : SpotId) : (s.deEnergise sp).comps = s.comps := rfl
@[simp] theorem State.deEnergise_queue (sp : SpotId) : (s.deEnergise sp).queue = s.queue := rfl
@[simp] theorem State.deEnergise_siteTrip (sp : SpotId) : (s.deEnergise sp).siteTrip = s.siteTrip := rfl
@[simp] theorem State.deEnergise_tickets (sp : SpotId) : (s.deEnergise sp).tickets = s.tickets := rfl
@[simp] theorem State.deEnergise_ticketCounter (sp : SpotId) : (s.deEnergise sp).ticketCounter = s.ticketCounter := rfl
@[simp] theorem State.deEnergise_pendingOrder (sp : SpotId) : (s.deEnergise sp).pendingOrder = s.pendingOrder := rfl
@[simp] theorem State.deEnergise_base (sp : SpotId) : (s.deEnergise sp).base = s.base := rfl

/-! ### `State.valvesOutOfService` -/

@[simp] theorem State.valvesOutOfService_vessels (sp : SpotId) : (s.valvesOutOfService sp).vessels = s.vessels := rfl
@[simp] theorem State.valvesOutOfService_comps (sp : SpotId) : (s.valvesOutOfService sp).comps = s.comps := rfl
@[simp] theorem State.valvesOutOfService_queue (sp : SpotId) : (s.valvesOutOfService sp).queue = s.queue := rfl
@[simp] theorem State.valvesOutOfService_siteTrip (sp : SpotId) : (s.valvesOutOfService sp).siteTrip = s.siteTrip := rfl
@[simp] theorem State.valvesOutOfService_tickets (sp : SpotId) : (s.valvesOutOfService sp).tickets = s.tickets := rfl
@[simp] theorem State.valvesOutOfService_ticketCounter (sp : SpotId) : (s.valvesOutOfService sp).ticketCounter = s.ticketCounter := rfl
@[simp] theorem State.valvesOutOfService_pendingOrder (sp : SpotId) : (s.valvesOutOfService sp).pendingOrder = s.pendingOrder := rfl
@[simp] theorem State.valvesOutOfService_base (sp : SpotId) : (s.valvesOutOfService sp).base = s.base := rfl

/-! ### `State.abandonList` -/

@[simp] theorem State.abandonList_vessels (sp : SpotId) : (s.abandonList sp).vessels = s.vessels := rfl
@[simp] theorem State.abandonList_comps (sp : SpotId) : (s.abandonList sp).comps = s.comps := rfl
@[simp] theorem State.abandonList_queue (sp : SpotId) : (s.abandonList sp).queue = s.queue := rfl
@[simp] theorem State.abandonList_siteTrip (sp : SpotId) : (s.abandonList sp).siteTrip = s.siteTrip := rfl
@[simp] theorem State.abandonList_tickets (sp : SpotId) : (s.abandonList sp).tickets = s.tickets := rfl
@[simp] theorem State.abandonList_ticketCounter (sp : SpotId) : (s.abandonList sp).ticketCounter = s.ticketCounter := rfl
@[simp] theorem State.abandonList_pendingOrder (sp : SpotId) : (s.abandonList sp).pendingOrder = s.pendingOrder := rfl
@[simp] theorem State.abandonList_base (sp : SpotId) : (s.abandonList sp).base = s.base := rfl

/-! ### `State.startList` -/

@[simp] theorem State.startList_vessels (sp : SpotId) (k : ListKind) (l : List ListStep) : (s.startList sp k l).vessels = s.vessels := rfl
@[simp] theorem State.startList_comps (sp : SpotId) (k : ListKind) (l : List ListStep) : (s.startList sp k l).comps = s.comps := rfl
@[simp] theorem State.startList_queue (sp : SpotId) (k : ListKind) (l : List ListStep) : (s.startList sp k l).queue = s.queue := rfl
@[simp] theorem State.startList_siteTrip (sp : SpotId) (k : ListKind) (l : List ListStep) : (s.startList sp k l).siteTrip = s.siteTrip := rfl
@[simp] theorem State.startList_tickets (sp : SpotId) (k : ListKind) (l : List ListStep) : (s.startList sp k l).tickets = s.tickets := rfl
@[simp] theorem State.startList_ticketCounter (sp : SpotId) (k : ListKind) (l : List ListStep) : (s.startList sp k l).ticketCounter = s.ticketCounter := rfl
@[simp] theorem State.startList_pendingOrder (sp : SpotId) (k : ListKind) (l : List ListStep) : (s.startList sp k l).pendingOrder = s.pendingOrder := rfl
@[simp] theorem State.startList_base (sp : SpotId) (k : ListKind) (l : List ListStep) : (s.startList sp k l).base = s.base := rfl

/-! ### `State.startClosedCheck` -/

@[simp] theorem State.startClosedCheck_vessels (sp : SpotId) : (s.startClosedCheck sp).vessels = s.vessels := rfl
@[simp] theorem State.startClosedCheck_comps (sp : SpotId) : (s.startClosedCheck sp).comps = s.comps := rfl
@[simp] theorem State.startClosedCheck_queue (sp : SpotId) : (s.startClosedCheck sp).queue = s.queue := rfl
@[simp] theorem State.startClosedCheck_siteTrip (sp : SpotId) : (s.startClosedCheck sp).siteTrip = s.siteTrip := rfl
@[simp] theorem State.startClosedCheck_tickets (sp : SpotId) : (s.startClosedCheck sp).tickets = s.tickets := rfl
@[simp] theorem State.startClosedCheck_ticketCounter (sp : SpotId) : (s.startClosedCheck sp).ticketCounter = s.ticketCounter := rfl
@[simp] theorem State.startClosedCheck_pendingOrder (sp : SpotId) : (s.startClosedCheck sp).pendingOrder = s.pendingOrder := rfl
@[simp] theorem State.startClosedCheck_base (sp : SpotId) : (s.startClosedCheck sp).base = s.base := rfl

/-! ### `State.proofChanged` -/

@[simp] theorem State.proofChanged_vessels (sp : SpotId) (v : Valve) : (s.proofChanged sp v).vessels = s.vessels := by
  unfold State.proofChanged; split <;> rfl
@[simp] theorem State.proofChanged_comps (sp : SpotId) (v : Valve) : (s.proofChanged sp v).comps = s.comps := by
  unfold State.proofChanged; split <;> rfl
@[simp] theorem State.proofChanged_queue (sp : SpotId) (v : Valve) : (s.proofChanged sp v).queue = s.queue := by
  unfold State.proofChanged; split <;> rfl
@[simp] theorem State.proofChanged_siteTrip (sp : SpotId) (v : Valve) : (s.proofChanged sp v).siteTrip = s.siteTrip := by
  unfold State.proofChanged; split <;> rfl
@[simp] theorem State.proofChanged_tickets (sp : SpotId) (v : Valve) : (s.proofChanged sp v).tickets = s.tickets := by
  unfold State.proofChanged; split <;> rfl
@[simp] theorem State.proofChanged_ticketCounter (sp : SpotId) (v : Valve) : (s.proofChanged sp v).ticketCounter = s.ticketCounter := by
  unfold State.proofChanged; split <;> rfl
@[simp] theorem State.proofChanged_pendingOrder (sp : SpotId) (v : Valve) : (s.proofChanged sp v).pendingOrder = s.pendingOrder := by
  unfold State.proofChanged; split <;> rfl
@[simp] theorem State.proofChanged_base (sp : SpotId) (v : Valve) : (s.proofChanged sp v).base = s.base := by
  unfold State.proofChanged; split <;> rfl

/-! ### `State.releaseStorage` -/

@[simp] theorem State.releaseStorage_spots (sp : SpotId) : (s.releaseStorage sp).spots = s.spots := by
  unfold State.releaseStorage; split <;> rfl
@[simp] theorem State.releaseStorage_comps (sp : SpotId) : (s.releaseStorage sp).comps = s.comps := by
  unfold State.releaseStorage; split <;> rfl
@[simp] theorem State.releaseStorage_queue (sp : SpotId) : (s.releaseStorage sp).queue = s.queue := by
  unfold State.releaseStorage; split <;> rfl
@[simp] theorem State.releaseStorage_siteTrip (sp : SpotId) : (s.releaseStorage sp).siteTrip = s.siteTrip := by
  unfold State.releaseStorage; split <;> rfl
@[simp] theorem State.releaseStorage_tickets (sp : SpotId) : (s.releaseStorage sp).tickets = s.tickets := by
  unfold State.releaseStorage; split <;> rfl
@[simp] theorem State.releaseStorage_ticketCounter (sp : SpotId) : (s.releaseStorage sp).ticketCounter = s.ticketCounter := by
  unfold State.releaseStorage; split <;> rfl
@[simp] theorem State.releaseStorage_pendingOrder (sp : SpotId) : (s.releaseStorage sp).pendingOrder = s.pendingOrder := by
  unfold State.releaseStorage; split <;> rfl
@[simp] theorem State.releaseStorage_base (sp : SpotId) : (s.releaseStorage sp).base = s.base := by
  unfold State.releaseStorage; split <;> rfl

/-! ### `State.overrunTest` -/

@[simp] theorem State.overrunTest_vessels (sp : SpotId) : (s.overrunTest sp).vessels = s.vessels := by
  unfold State.overrunTest; split; split <;> rfl; rfl
@[simp] theorem State.overrunTest_comps (sp : SpotId) : (s.overrunTest sp).comps = s.comps := by
  unfold State.overrunTest; split; split <;> rfl; rfl
@[simp] theorem State.overrunTest_queue (sp : SpotId) : (s.overrunTest sp).queue = s.queue := by
  unfold State.overrunTest; split; split <;> rfl; rfl
@[simp] theorem State.overrunTest_siteTrip (sp : SpotId) : (s.overrunTest sp).siteTrip = s.siteTrip := by
  unfold State.overrunTest; split; split <;> rfl; rfl
@[simp] theorem State.overrunTest_tickets (sp : SpotId) : (s.overrunTest sp).tickets = s.tickets := by
  unfold State.overrunTest; split; split <;> rfl; rfl
@[simp] theorem State.overrunTest_ticketCounter (sp : SpotId) : (s.overrunTest sp).ticketCounter = s.ticketCounter := by
  unfold State.overrunTest; split; split <;> rfl; rfl
@[simp] theorem State.overrunTest_pendingOrder (sp : SpotId) : (s.overrunTest sp).pendingOrder = s.pendingOrder := by
  unfold State.overrunTest; split; split <;> rfl; rfl
@[simp] theorem State.overrunTest_base (sp : SpotId) : (s.overrunTest sp).base = s.base := by
  unfold State.overrunTest; split; split <;> rfl; rfl

/-! ### `State.stopComp` -/

@[simp] theorem State.stopComp_spots (c : CompId) : (s.stopComp c).spots = s.spots := rfl
@[simp] theorem State.stopComp_vessels (c : CompId) : (s.stopComp c).vessels = s.vessels := rfl
@[simp] theorem State.stopComp_queue (c : CompId) : (s.stopComp c).queue = s.queue := rfl
@[simp] theorem State.stopComp_siteTrip (c : CompId) : (s.stopComp c).siteTrip = s.siteTrip := rfl
@[simp] theorem State.stopComp_tickets (c : CompId) : (s.stopComp c).tickets = s.tickets := rfl
@[simp] theorem State.stopComp_ticketCounter (c : CompId) : (s.stopComp c).ticketCounter = s.ticketCounter := rfl
@[simp] theorem State.stopComp_pendingOrder (c : CompId) : (s.stopComp c).pendingOrder = s.pendingOrder := rfl
@[simp] theorem State.stopComp_base (c : CompId) : (s.stopComp c).base = s.base := rfl

/-! ### `State.giveComp` -/

@[simp] theorem State.giveComp_spots (c : CompId) (e : QueueEntry) (rest : List QueueEntry) : (s.giveComp c e rest).spots = s.spots := rfl
@[simp] theorem State.giveComp_vessels (c : CompId) (e : QueueEntry) (rest : List QueueEntry) : (s.giveComp c e rest).vessels = s.vessels := rfl
@[simp] theorem State.giveComp_siteTrip (c : CompId) (e : QueueEntry) (rest : List QueueEntry) : (s.giveComp c e rest).siteTrip = s.siteTrip := rfl
@[simp] theorem State.giveComp_tickets (c : CompId) (e : QueueEntry) (rest : List QueueEntry) : (s.giveComp c e rest).tickets = s.tickets := rfl
@[simp] theorem State.giveComp_ticketCounter (c : CompId) (e : QueueEntry) (rest : List QueueEntry) : (s.giveComp c e rest).ticketCounter = s.ticketCounter := rfl
@[simp] theorem State.giveComp_pendingOrder (c : CompId) (e : QueueEntry) (rest : List QueueEntry) : (s.giveComp c e rest).pendingOrder = s.pendingOrder := rfl
@[simp] theorem State.giveComp_base (c : CompId) (e : QueueEntry) (rest : List QueueEntry) : (s.giveComp c e rest).base = s.base := rfl

/-! ### `State.handOver` -/

@[simp] theorem State.handOver_spots (c : CompId) (e : QueueEntry) (rest : List QueueEntry) : (s.handOver c e rest).spots = s.spots := rfl
@[simp] theorem State.handOver_vessels (c : CompId) (e : QueueEntry) (rest : List QueueEntry) : (s.handOver c e rest).vessels = s.vessels := rfl
@[simp] theorem State.handOver_siteTrip (c : CompId) (e : QueueEntry) (rest : List QueueEntry) : (s.handOver c e rest).siteTrip = s.siteTrip := rfl
@[simp] theorem State.handOver_tickets (c : CompId) (e : QueueEntry) (rest : List QueueEntry) : (s.handOver c e rest).tickets = s.tickets := rfl
@[simp] theorem State.handOver_ticketCounter (c : CompId) (e : QueueEntry) (rest : List QueueEntry) : (s.handOver c e rest).ticketCounter = s.ticketCounter := rfl
@[simp] theorem State.handOver_pendingOrder (c : CompId) (e : QueueEntry) (rest : List QueueEntry) : (s.handOver c e rest).pendingOrder = s.pendingOrder := rfl
@[simp] theorem State.handOver_base (c : CompId) (e : QueueEntry) (rest : List QueueEntry) : (s.handOver c e rest).base = s.base := rfl

/-! ### `State.latchSpotIf` -/

@[simp] theorem State.latchSpotIf_spots (b : Bool) (sp : SpotId) (k : SpotLatch) : (s.latchSpotIf b sp k).spots = s.spots := by
  unfold State.latchSpotIf; split <;> rfl
@[simp] theorem State.latchSpotIf_vessels (b : Bool) (sp : SpotId) (k : SpotLatch) : (s.latchSpotIf b sp k).vessels = s.vessels := by
  unfold State.latchSpotIf; split <;> rfl
@[simp] theorem State.latchSpotIf_comps (b : Bool) (sp : SpotId) (k : SpotLatch) : (s.latchSpotIf b sp k).comps = s.comps := by
  unfold State.latchSpotIf; split <;> rfl
@[simp] theorem State.latchSpotIf_queue (b : Bool) (sp : SpotId) (k : SpotLatch) : (s.latchSpotIf b sp k).queue = s.queue := by
  unfold State.latchSpotIf; split <;> rfl
@[simp] theorem State.latchSpotIf_siteTrip (b : Bool) (sp : SpotId) (k : SpotLatch) : (s.latchSpotIf b sp k).siteTrip = s.siteTrip := by
  unfold State.latchSpotIf; split <;> rfl
@[simp] theorem State.latchSpotIf_tickets (b : Bool) (sp : SpotId) (k : SpotLatch) : (s.latchSpotIf b sp k).tickets = s.tickets := by
  unfold State.latchSpotIf; split <;> rfl
@[simp] theorem State.latchSpotIf_ticketCounter (b : Bool) (sp : SpotId) (k : SpotLatch) : (s.latchSpotIf b sp k).ticketCounter = s.ticketCounter := by
  unfold State.latchSpotIf; split <;> rfl
@[simp] theorem State.latchSpotIf_pendingOrder (b : Bool) (sp : SpotId) (k : SpotLatch) : (s.latchSpotIf b sp k).pendingOrder = s.pendingOrder := by
  unfold State.latchSpotIf; split <;> rfl
@[simp] theorem State.latchSpotIf_base (b : Bool) (sp : SpotId) (k : SpotLatch) : (s.latchSpotIf b sp k).base = s.base := by
  unfold State.latchSpotIf; split <;> rfl

/-! ### `State.startWindow` -/

@[simp] theorem State.startWindow_vessels (sp : SpotId) : (s.startWindow sp).vessels = s.vessels := rfl
@[simp] theorem State.startWindow_comps (sp : SpotId) : (s.startWindow sp).comps = s.comps := rfl
@[simp] theorem State.startWindow_queue (sp : SpotId) : (s.startWindow sp).queue = s.queue := rfl
@[simp] theorem State.startWindow_siteTrip (sp : SpotId) : (s.startWindow sp).siteTrip = s.siteTrip := rfl
@[simp] theorem State.startWindow_tickets (sp : SpotId) : (s.startWindow sp).tickets = s.tickets := rfl
@[simp] theorem State.startWindow_ticketCounter (sp : SpotId) : (s.startWindow sp).ticketCounter = s.ticketCounter := rfl
@[simp] theorem State.startWindow_pendingOrder (sp : SpotId) : (s.startWindow sp).pendingOrder = s.pendingOrder := rfl
@[simp] theorem State.startWindow_base (sp : SpotId) : (s.startWindow sp).base = s.base := rfl

/-! ### `State.processWindow` -/

@[simp] theorem State.processWindow_vessels (sp : SpotId) (r : Record) : (s.processWindow sp r).1.vessels = s.vessels := by
  unfold State.processWindow; dsimp only; split <;> simp
@[simp] theorem State.processWindow_comps (sp : SpotId) (r : Record) : (s.processWindow sp r).1.comps = s.comps := by
  unfold State.processWindow; dsimp only; split <;> simp
@[simp] theorem State.processWindow_queue (sp : SpotId) (r : Record) : (s.processWindow sp r).1.queue = s.queue := by
  unfold State.processWindow; dsimp only; split <;> simp
@[simp] theorem State.processWindow_siteTrip (sp : SpotId) (r : Record) : (s.processWindow sp r).1.siteTrip = s.siteTrip := by
  unfold State.processWindow; dsimp only; split <;> simp
@[simp] theorem State.processWindow_tickets (sp : SpotId) (r : Record) : (s.processWindow sp r).1.tickets = s.tickets := by
  unfold State.processWindow; dsimp only; split <;> simp
@[simp] theorem State.processWindow_ticketCounter (sp : SpotId) (r : Record) : (s.processWindow sp r).1.ticketCounter = s.ticketCounter := by
  unfold State.processWindow; dsimp only; split <;> simp
@[simp] theorem State.processWindow_pendingOrder (sp : SpotId) (r : Record) : (s.processWindow sp r).1.pendingOrder = s.pendingOrder := by
  unfold State.processWindow; dsimp only; split <;> simp
@[simp] theorem State.processWindow_base (sp : SpotId) (r : Record) : (s.processWindow sp r).1.base = s.base := by
  unfold State.processWindow; dsimp only; split
  · exact (show State.base (State.latchSpotIf _ _ _ _) = _ by simp)
  · simp

/-! ### `State.closeLastWindow` -/

@[simp] theorem State.closeLastWindow_vessels (sp : SpotId) : (s.closeLastWindow sp).vessels = s.vessels := by
  unfold State.closeLastWindow; split <;> simp
@[simp] theorem State.closeLastWindow_comps (sp : SpotId) : (s.closeLastWindow sp).comps = s.comps := by
  unfold State.closeLastWindow; split <;> simp
@[simp] theorem State.closeLastWindow_queue (sp : SpotId) : (s.closeLastWindow sp).queue = s.queue := by
  unfold State.closeLastWindow; split <;> simp
@[simp] theorem State.closeLastWindow_siteTrip (sp : SpotId) : (s.closeLastWindow sp).siteTrip = s.siteTrip := by
  unfold State.closeLastWindow; split <;> simp
@[simp] theorem State.closeLastWindow_tickets (sp : SpotId) : (s.closeLastWindow sp).tickets = s.tickets := by
  unfold State.closeLastWindow; split <;> simp
@[simp] theorem State.closeLastWindow_ticketCounter (sp : SpotId) : (s.closeLastWindow sp).ticketCounter = s.ticketCounter := by
  unfold State.closeLastWindow; split <;> simp
@[simp] theorem State.closeLastWindow_pendingOrder (sp : SpotId) : (s.closeLastWindow sp).pendingOrder = s.pendingOrder := by
  unfold State.closeLastWindow; split <;> simp
@[simp] theorem State.closeLastWindow_base (sp : SpotId) : (s.closeLastWindow sp).base = s.base := by
  unfold State.closeLastWindow; split <;> simp

/-! ### `State.discardRecord` -/

@[simp] theorem State.discardRecord_vessels (sp : SpotId) : (s.discardRecord sp).vessels = s.vessels := rfl
@[simp] theorem State.discardRecord_comps (sp : SpotId) : (s.discardRecord sp).comps = s.comps := rfl
@[simp] theorem State.discardRecord_queue (sp : SpotId) : (s.discardRecord sp).queue = s.queue := rfl
@[simp] theorem State.discardRecord_siteTrip (sp : SpotId) : (s.discardRecord sp).siteTrip = s.siteTrip := rfl
@[simp] theorem State.discardRecord_tickets (sp : SpotId) : (s.discardRecord sp).tickets = s.tickets := rfl
@[simp] theorem State.discardRecord_ticketCounter (sp : SpotId) : (s.discardRecord sp).ticketCounter = s.ticketCounter := rfl
@[simp] theorem State.discardRecord_pendingOrder (sp : SpotId) : (s.discardRecord sp).pendingOrder = s.pendingOrder := rfl
@[simp] theorem State.discardRecord_base (sp : SpotId) : (s.discardRecord sp).base = s.base := rfl

/-! ### `State.startDwell` -/

@[simp] theorem State.startDwell_vessels (sp : SpotId) : (s.startDwell sp).vessels = s.vessels := by
  unfold State.startDwell; split <;> rfl
@[simp] theorem State.startDwell_comps (sp : SpotId) : (s.startDwell sp).comps = s.comps := by
  unfold State.startDwell; split <;> rfl
@[simp] theorem State.startDwell_queue (sp : SpotId) : (s.startDwell sp).queue = s.queue := by
  unfold State.startDwell; split <;> rfl
@[simp] theorem State.startDwell_siteTrip (sp : SpotId) : (s.startDwell sp).siteTrip = s.siteTrip := by
  unfold State.startDwell; split <;> rfl
@[simp] theorem State.startDwell_tickets (sp : SpotId) : (s.startDwell sp).tickets = s.tickets := by
  unfold State.startDwell; split <;> rfl
@[simp] theorem State.startDwell_ticketCounter (sp : SpotId) : (s.startDwell sp).ticketCounter = s.ticketCounter := by
  unfold State.startDwell; split <;> rfl
@[simp] theorem State.startDwell_pendingOrder (sp : SpotId) : (s.startDwell sp).pendingOrder = s.pendingOrder := by
  unfold State.startDwell; split <;> rfl
@[simp] theorem State.startDwell_base (sp : SpotId) : (s.startDwell sp).base = s.base := by
  unfold State.startDwell; split <;> rfl

/-! ### `State.stallSupervision` -/

@[simp] theorem State.stallSupervision_vessels (sp : SpotId) (w : WindowResult) : (s.stallSupervision sp w).vessels = s.vessels := by
  unfold State.stallSupervision; split; rfl; split <;> rfl
@[simp] theorem State.stallSupervision_comps (sp : SpotId) (w : WindowResult) : (s.stallSupervision sp w).comps = s.comps := by
  unfold State.stallSupervision; split; rfl; split <;> rfl
@[simp] theorem State.stallSupervision_queue (sp : SpotId) (w : WindowResult) : (s.stallSupervision sp w).queue = s.queue := by
  unfold State.stallSupervision; split; rfl; split <;> rfl
@[simp] theorem State.stallSupervision_siteTrip (sp : SpotId) (w : WindowResult) : (s.stallSupervision sp w).siteTrip = s.siteTrip := by
  unfold State.stallSupervision; split; rfl; split <;> rfl
@[simp] theorem State.stallSupervision_tickets (sp : SpotId) (w : WindowResult) : (s.stallSupervision sp w).tickets = s.tickets := by
  unfold State.stallSupervision; split; rfl; split <;> rfl
@[simp] theorem State.stallSupervision_ticketCounter (sp : SpotId) (w : WindowResult) : (s.stallSupervision sp w).ticketCounter = s.ticketCounter := by
  unfold State.stallSupervision; split; rfl; split <;> rfl
@[simp] theorem State.stallSupervision_pendingOrder (sp : SpotId) (w : WindowResult) : (s.stallSupervision sp w).pendingOrder = s.pendingOrder := by
  unfold State.stallSupervision; split; rfl; split <;> rfl
@[simp] theorem State.stallSupervision_base (sp : SpotId) (w : WindowResult) : (s.stallSupervision sp w).base = s.base := by
  unfold State.stallSupervision; split; rfl; split <;> rfl

/-! ### `State.recoveryResult` -/

@[simp] theorem State.recoveryResult_vessels (sp : SpotId) (b : Bool) : (s.recoveryResult sp b).vessels = s.vessels := rfl
@[simp] theorem State.recoveryResult_comps (sp : SpotId) (b : Bool) : (s.recoveryResult sp b).comps = s.comps := rfl
@[simp] theorem State.recoveryResult_queue (sp : SpotId) (b : Bool) : (s.recoveryResult sp b).queue = s.queue := rfl
@[simp] theorem State.recoveryResult_siteTrip (sp : SpotId) (b : Bool) : (s.recoveryResult sp b).siteTrip = s.siteTrip := rfl
@[simp] theorem State.recoveryResult_tickets (sp : SpotId) (b : Bool) : (s.recoveryResult sp b).tickets = s.tickets := rfl
@[simp] theorem State.recoveryResult_ticketCounter (sp : SpotId) (b : Bool) : (s.recoveryResult sp b).ticketCounter = s.ticketCounter := rfl
@[simp] theorem State.recoveryResult_pendingOrder (sp : SpotId) (b : Bool) : (s.recoveryResult sp b).pendingOrder = s.pendingOrder := rfl
@[simp] theorem State.recoveryResult_base (sp : SpotId) (b : Bool) : (s.recoveryResult sp b).base = s.base := rfl

/-! ### `State.pressureFault` -/

@[simp] theorem State.pressureFault_vessels (sp : SpotId) : (s.pressureFault sp).vessels = s.vessels := by
  unfold State.pressureFault; dsimp only; split <;> simp
@[simp] theorem State.pressureFault_comps (sp : SpotId) : (s.pressureFault sp).comps = s.comps := by
  unfold State.pressureFault; dsimp only; split <;> simp
@[simp] theorem State.pressureFault_queue (sp : SpotId) : (s.pressureFault sp).queue = s.queue := by
  unfold State.pressureFault; dsimp only; split <;> simp
@[simp] theorem State.pressureFault_siteTrip (sp : SpotId) : (s.pressureFault sp).siteTrip = s.siteTrip := by
  unfold State.pressureFault; dsimp only; split <;> simp
@[simp] theorem State.pressureFault_tickets (sp : SpotId) : (s.pressureFault sp).tickets = s.tickets := by
  unfold State.pressureFault; dsimp only; split <;> simp
@[simp] theorem State.pressureFault_ticketCounter (sp : SpotId) : (s.pressureFault sp).ticketCounter = s.ticketCounter := by
  unfold State.pressureFault; dsimp only; split <;> simp
@[simp] theorem State.pressureFault_pendingOrder (sp : SpotId) : (s.pressureFault sp).pendingOrder = s.pendingOrder := by
  unfold State.pressureFault; dsimp only; split <;> simp
@[simp] theorem State.pressureFault_base (sp : SpotId) : (s.pressureFault sp).base = s.base := by
  unfold State.pressureFault; dsimp only; split <;> simp

/-! ### `State.moveTo` -/

@[simp] theorem State.moveTo_vessels (sp : SpotId) (st : SpotState) : (s.moveTo sp st).vessels = s.vessels := by
  unfold State.moveTo; split <;> simp
@[simp] theorem State.moveTo_comps (sp : SpotId) (st : SpotState) : (s.moveTo sp st).comps = s.comps := by
  unfold State.moveTo; split <;> simp
@[simp] theorem State.moveTo_queue (sp : SpotId) (st : SpotState) : (s.moveTo sp st).queue = s.queue := by
  unfold State.moveTo; split <;> simp
@[simp] theorem State.moveTo_siteTrip (sp : SpotId) (st : SpotState) : (s.moveTo sp st).siteTrip = s.siteTrip := by
  unfold State.moveTo; split <;> simp
@[simp] theorem State.moveTo_tickets (sp : SpotId) (st : SpotState) : (s.moveTo sp st).tickets = s.tickets := by
  unfold State.moveTo; split <;> simp
@[simp] theorem State.moveTo_ticketCounter (sp : SpotId) (st : SpotState) : (s.moveTo sp st).ticketCounter = s.ticketCounter := by
  unfold State.moveTo; split <;> simp
@[simp] theorem State.moveTo_pendingOrder (sp : SpotId) (st : SpotState) : (s.moveTo sp st).pendingOrder = s.pendingOrder := by
  unfold State.moveTo; split <;> simp
@[simp] theorem State.moveTo_base (sp : SpotId) (st : SpotState) : (s.moveTo sp st).base = s.base := by
  unfold State.moveTo; split <;> simp

/-! ### `State.enterTransfer` -/

@[simp] theorem State.enterTransfer_vessels (sp : SpotId) : (s.enterTransfer sp).vessels = s.vessels := by
  unfold State.enterTransfer; simp
@[simp] theorem State.enterTransfer_comps (sp : SpotId) : (s.enterTransfer sp).comps = s.comps := by
  unfold State.enterTransfer; simp
@[simp] theorem State.enterTransfer_queue (sp : SpotId) : (s.enterTransfer sp).queue = s.queue := by
  unfold State.enterTransfer; simp
@[simp] theorem State.enterTransfer_siteTrip (sp : SpotId) : (s.enterTransfer sp).siteTrip = s.siteTrip := by
  unfold State.enterTransfer; simp
@[simp] theorem State.enterTransfer_tickets (sp : SpotId) : (s.enterTransfer sp).tickets = s.tickets := by
  unfold State.enterTransfer; simp
@[simp] theorem State.enterTransfer_ticketCounter (sp : SpotId) : (s.enterTransfer sp).ticketCounter = s.ticketCounter := by
  unfold State.enterTransfer; simp
@[simp] theorem State.enterTransfer_pendingOrder (sp : SpotId) : (s.enterTransfer sp).pendingOrder = s.pendingOrder := by
  unfold State.enterTransfer; simp
@[simp] theorem State.enterTransfer_base (sp : SpotId) : (s.enterTransfer sp).base = s.base := by
  unfold State.enterTransfer; simp

/-! ### `State.holdSpot` -/

@[simp] theorem State.holdSpot_vessels (sp : SpotId) (c : HoldCause) (v : Option Valve) : (s.holdSpot sp c v).vessels = s.vessels := by
  unfold State.holdSpot; simp
@[simp] theorem State.holdSpot_comps (sp : SpotId) (c : HoldCause) (v : Option Valve) : (s.holdSpot sp c v).comps = s.comps := by
  unfold State.holdSpot; simp
@[simp] theorem State.holdSpot_siteTrip (sp : SpotId) (c : HoldCause) (v : Option Valve) : (s.holdSpot sp c v).siteTrip = s.siteTrip := by
  unfold State.holdSpot; simp
@[simp] theorem State.holdSpot_tickets (sp : SpotId) (c : HoldCause) (v : Option Valve) : (s.holdSpot sp c v).tickets = s.tickets := by
  unfold State.holdSpot; simp
@[simp] theorem State.holdSpot_ticketCounter (sp : SpotId) (c : HoldCause) (v : Option Valve) : (s.holdSpot sp c v).ticketCounter = s.ticketCounter := by
  unfold State.holdSpot; simp
@[simp] theorem State.holdSpot_pendingOrder (sp : SpotId) (c : HoldCause) (v : Option Valve) : (s.holdSpot sp c v).pendingOrder = s.pendingOrder := by
  unfold State.holdSpot; simp
@[simp] theorem State.holdSpot_base (sp : SpotId) (c : HoldCause) (v : Option Valve) : (s.holdSpot sp c v).base = s.base := by
  unfold State.holdSpot; simp

/-! ### `State.settleSpot` -/

@[simp] theorem State.settleSpot_vessels (sp : SpotId) (c : EndCause) : (s.settleSpot sp c).vessels = s.vessels := by
  unfold State.settleSpot; simp
@[simp] theorem State.settleSpot_comps (sp : SpotId) (c : EndCause) : (s.settleSpot sp c).comps = s.comps := by
  unfold State.settleSpot; simp
@[simp] theorem State.settleSpot_siteTrip (sp : SpotId) (c : EndCause) : (s.settleSpot sp c).siteTrip = s.siteTrip := by
  unfold State.settleSpot; simp
@[simp] theorem State.settleSpot_tickets (sp : SpotId) (c : EndCause) : (s.settleSpot sp c).tickets = s.tickets := by
  unfold State.settleSpot; simp
@[simp] theorem State.settleSpot_ticketCounter (sp : SpotId) (c : EndCause) : (s.settleSpot sp c).ticketCounter = s.ticketCounter := by
  unfold State.settleSpot; simp
@[simp] theorem State.settleSpot_pendingOrder (sp : SpotId) (c : EndCause) : (s.settleSpot sp c).pendingOrder = s.pendingOrder := by
  unfold State.settleSpot; simp
@[simp] theorem State.settleSpot_base (sp : SpotId) (c : EndCause) : (s.settleSpot sp c).base = s.base := by
  unfold State.settleSpot; simp

/-! ### `State.closeSpot` -/

@[simp] theorem State.closeSpot_vessels (sp : SpotId) : (s.closeSpot sp).vessels = s.vessels := by
  unfold State.closeSpot; dsimp only; generalize (_ && _ : Bool) = b; cases b <;> simp
@[simp] theorem State.closeSpot_comps (sp : SpotId) : (s.closeSpot sp).comps = s.comps := by
  unfold State.closeSpot; dsimp only; generalize (_ && _ : Bool) = b; cases b <;> simp
@[simp] theorem State.closeSpot_siteTrip (sp : SpotId) : (s.closeSpot sp).siteTrip = s.siteTrip := by
  unfold State.closeSpot; dsimp only; generalize (_ && _ : Bool) = b; cases b <;> simp
@[simp] theorem State.closeSpot_tickets (sp : SpotId) : (s.closeSpot sp).tickets = s.tickets := by
  unfold State.closeSpot; dsimp only; generalize (_ && _ : Bool) = b; cases b <;> simp
@[simp] theorem State.closeSpot_ticketCounter (sp : SpotId) : (s.closeSpot sp).ticketCounter = s.ticketCounter := by
  unfold State.closeSpot; dsimp only; generalize (_ && _ : Bool) = b; cases b <;> simp
@[simp] theorem State.closeSpot_pendingOrder (sp : SpotId) : (s.closeSpot sp).pendingOrder = s.pendingOrder := by
  unfold State.closeSpot; dsimp only; generalize (_ && _ : Bool) = b; cases b <;> simp
@[simp] theorem State.closeSpot_base (sp : SpotId) : (s.closeSpot sp).base = s.base := by
  unfold State.closeSpot; dsimp only; generalize (_ && _ : Bool) = b; cases b <;> simp

/-! ### `State.recoverSpot` -/

@[simp] theorem State.recoverSpot_vessels (sp : SpotId) : (s.recoverSpot sp).vessels = s.vessels := by
  unfold State.recoverSpot; simp
@[simp] theorem State.recoverSpot_comps (sp : SpotId) : (s.recoverSpot sp).comps = s.comps := by
  unfold State.recoverSpot; simp
@[simp] theorem State.recoverSpot_queue (sp : SpotId) : (s.recoverSpot sp).queue = s.queue := by
  unfold State.recoverSpot; simp
@[simp] theorem State.recoverSpot_siteTrip (sp : SpotId) : (s.recoverSpot sp).siteTrip = s.siteTrip := by
  unfold State.recoverSpot; simp
@[simp] theorem State.recoverSpot_tickets (sp : SpotId) : (s.recoverSpot sp).tickets = s.tickets := by
  unfold State.recoverSpot; simp
@[simp] theorem State.recoverSpot_ticketCounter (sp : SpotId) : (s.recoverSpot sp).ticketCounter = s.ticketCounter := by
  unfold State.recoverSpot; simp
@[simp] theorem State.recoverSpot_pendingOrder (sp : SpotId) : (s.recoverSpot sp).pendingOrder = s.pendingOrder := by
  unfold State.recoverSpot; simp
@[simp] theorem State.recoverSpot_base (sp : SpotId) : (s.recoverSpot sp).base = s.base := by
  unfold State.recoverSpot; simp

/-! ### `State.startProving` -/

@[simp] theorem State.startProving_vessels (sp : SpotId) : (s.startProving sp).vessels = s.vessels := by
  unfold State.startProving; split <;> rfl
@[simp] theorem State.startProving_comps (sp : SpotId) : (s.startProving sp).comps = s.comps := by
  unfold State.startProving; split <;> rfl
@[simp] theorem State.startProving_queue (sp : SpotId) : (s.startProving sp).queue = s.queue := by
  unfold State.startProving; split <;> rfl
@[simp] theorem State.startProving_siteTrip (sp : SpotId) : (s.startProving sp).siteTrip = s.siteTrip := by
  unfold State.startProving; split <;> rfl
@[simp] theorem State.startProving_tickets (sp : SpotId) : (s.startProving sp).tickets = s.tickets := by
  unfold State.startProving; split <;> rfl
@[simp] theorem State.startProving_ticketCounter (sp : SpotId) : (s.startProving sp).ticketCounter = s.ticketCounter := by
  unfold State.startProving; split <;> rfl
@[simp] theorem State.startProving_pendingOrder (sp : SpotId) : (s.startProving sp).pendingOrder = s.pendingOrder := by
  unfold State.startProving; split <;> rfl
@[simp] theorem State.startProving_base (sp : SpotId) : (s.startProving sp).base = s.base := by
  unfold State.startProving; split <;> rfl

/-! ### `State.openRecord` -/

@[simp] theorem State.openRecord_vessels (sp : SpotId) (o : Order) : (s.openRecord sp o).vessels = s.vessels := by
  unfold State.openRecord; simp
@[simp] theorem State.openRecord_comps (sp : SpotId) (o : Order) : (s.openRecord sp o).comps = s.comps := by
  unfold State.openRecord; simp
@[simp] theorem State.openRecord_queue (sp : SpotId) (o : Order) : (s.openRecord sp o).queue = s.queue := by
  unfold State.openRecord; simp
@[simp] theorem State.openRecord_siteTrip (sp : SpotId) (o : Order) : (s.openRecord sp o).siteTrip = s.siteTrip := by
  unfold State.openRecord; simp
@[simp] theorem State.openRecord_tickets (sp : SpotId) (o : Order) : (s.openRecord sp o).tickets = s.tickets := by
  unfold State.openRecord; simp
@[simp] theorem State.openRecord_ticketCounter (sp : SpotId) (o : Order) : (s.openRecord sp o).ticketCounter = s.ticketCounter := by
  unfold State.openRecord; simp
@[simp] theorem State.openRecord_pendingOrder (sp : SpotId) (o : Order) : (s.openRecord sp o).pendingOrder = s.pendingOrder := by
  unfold State.openRecord; simp
@[simp] theorem State.openRecord_base (sp : SpotId) (o : Order) : (s.openRecord sp o).base = s.base := by
  unfold State.openRecord; simp

/-! ### `State.vacate` -/

@[simp] theorem State.vacate_vessels (sp : SpotId) : (s.vacate sp).vessels = s.vessels := by
  unfold State.vacate; simp
@[simp] theorem State.vacate_comps (sp : SpotId) : (s.vacate sp).comps = s.comps := by
  unfold State.vacate; simp
@[simp] theorem State.vacate_queue (sp : SpotId) : (s.vacate sp).queue = s.queue := by
  unfold State.vacate; simp
@[simp] theorem State.vacate_siteTrip (sp : SpotId) : (s.vacate sp).siteTrip = s.siteTrip := by
  unfold State.vacate; simp
@[simp] theorem State.vacate_tickets (sp : SpotId) : (s.vacate sp).tickets = s.tickets := by
  unfold State.vacate; simp
@[simp] theorem State.vacate_ticketCounter (sp : SpotId) : (s.vacate sp).ticketCounter = s.ticketCounter := by
  unfold State.vacate; simp
@[simp] theorem State.vacate_pendingOrder (sp : SpotId) : (s.vacate sp).pendingOrder = s.pendingOrder := by
  unfold State.vacate; simp
@[simp] theorem State.vacate_base (sp : SpotId) : (s.vacate sp).base = s.base := by
  unfold State.vacate; simp

/-! ### `State.retainRecord` -/

@[simp] theorem State.retainRecord_vessels (sp : SpotId) : (s.retainRecord sp).vessels = s.vessels := rfl
@[simp] theorem State.retainRecord_comps (sp : SpotId) : (s.retainRecord sp).comps = s.comps := rfl
@[simp] theorem State.retainRecord_queue (sp : SpotId) : (s.retainRecord sp).queue = s.queue := rfl
@[simp] theorem State.retainRecord_siteTrip (sp : SpotId) : (s.retainRecord sp).siteTrip = s.siteTrip := rfl
@[simp] theorem State.retainRecord_tickets (sp : SpotId) : (s.retainRecord sp).tickets = s.tickets := rfl
@[simp] theorem State.retainRecord_ticketCounter (sp : SpotId) : (s.retainRecord sp).ticketCounter = s.ticketCounter := rfl
@[simp] theorem State.retainRecord_pendingOrder (sp : SpotId) : (s.retainRecord sp).pendingOrder = s.pendingOrder := rfl
@[simp] theorem State.retainRecord_base (sp : SpotId) : (s.retainRecord sp).base = s.base := rfl

/-! ### `State.completeSpot` -/

@[simp] theorem State.completeSpot_vessels (sp : SpotId) (id : List Byte) (n : Nat) : (s.completeSpot sp id n).vessels = s.vessels := by
  unfold State.completeSpot; simp
@[simp] theorem State.completeSpot_comps (sp : SpotId) (id : List Byte) (n : Nat) : (s.completeSpot sp id n).comps = s.comps := by
  unfold State.completeSpot; simp
@[simp] theorem State.completeSpot_queue (sp : SpotId) (id : List Byte) (n : Nat) : (s.completeSpot sp id n).queue = s.queue := by
  unfold State.completeSpot; simp
@[simp] theorem State.completeSpot_siteTrip (sp : SpotId) (id : List Byte) (n : Nat) : (s.completeSpot sp id n).siteTrip = s.siteTrip := by
  unfold State.completeSpot; simp
@[simp] theorem State.completeSpot_tickets (sp : SpotId) (id : List Byte) (n : Nat) : (s.completeSpot sp id n).tickets = s.tickets := by
  unfold State.completeSpot; simp
@[simp] theorem State.completeSpot_ticketCounter (sp : SpotId) (id : List Byte) (n : Nat) : (s.completeSpot sp id n).ticketCounter = s.ticketCounter := by
  unfold State.completeSpot; simp
@[simp] theorem State.completeSpot_pendingOrder (sp : SpotId) (id : List Byte) (n : Nat) : (s.completeSpot sp id n).pendingOrder = s.pendingOrder := by
  unfold State.completeSpot; simp
@[simp] theorem State.completeSpot_base (sp : SpotId) (id : List Byte) (n : Nat) : (s.completeSpot sp id n).base = s.base := by
  unfold State.completeSpot; simp

/-! ### `State.placeTicket` -/

@[simp] theorem State.placeTicket_vessels (sp : SpotId) : (s.placeTicket sp).vessels = s.vessels := by
  unfold State.placeTicket; dsimp only; split <;> simp
@[simp] theorem State.placeTicket_comps (sp : SpotId) : (s.placeTicket sp).comps = s.comps := by
  unfold State.placeTicket; dsimp only; split <;> simp
@[simp] theorem State.placeTicket_queue (sp : SpotId) : (s.placeTicket sp).queue = s.queue := by
  unfold State.placeTicket; dsimp only; split <;> simp
@[simp] theorem State.placeTicket_siteTrip (sp : SpotId) : (s.placeTicket sp).siteTrip = s.siteTrip := by
  unfold State.placeTicket; dsimp only; split <;> simp
@[simp] theorem State.placeTicket_base (sp : SpotId) : (s.placeTicket sp).base = s.base := by
  unfold State.placeTicket; dsimp only; split <;> simp

/-! ### `State.awaitPlacement` -/

@[simp] theorem State.awaitPlacement_vessels (sp : SpotId) : (s.awaitPlacement sp).vessels = s.vessels := by
  unfold State.awaitPlacement; dsimp only; split <;> simp
@[simp] theorem State.awaitPlacement_comps (sp : SpotId) : (s.awaitPlacement sp).comps = s.comps := by
  unfold State.awaitPlacement; dsimp only; split <;> simp
@[simp] theorem State.awaitPlacement_queue (sp : SpotId) : (s.awaitPlacement sp).queue = s.queue := by
  unfold State.awaitPlacement; dsimp only; split <;> simp
@[simp] theorem State.awaitPlacement_siteTrip (sp : SpotId) : (s.awaitPlacement sp).siteTrip = s.siteTrip := by
  unfold State.awaitPlacement; dsimp only; split <;> simp
@[simp] theorem State.awaitPlacement_tickets (sp : SpotId) : (s.awaitPlacement sp).tickets = s.tickets := by
  unfold State.awaitPlacement; dsimp only; split <;> simp
@[simp] theorem State.awaitPlacement_ticketCounter (sp : SpotId) : (s.awaitPlacement sp).ticketCounter = s.ticketCounter := by
  unfold State.awaitPlacement; dsimp only; split <;> simp
@[simp] theorem State.awaitPlacement_base (sp : SpotId) : (s.awaitPlacement sp).base = s.base := by
  unfold State.awaitPlacement; dsimp only; split <;> simp

/-! ### `State.stampEnd` -/

@[simp] theorem State.stampEnd_vessels (sp : SpotId) : (s.stampEnd sp).vessels = s.vessels := rfl
@[simp] theorem State.stampEnd_comps (sp : SpotId) : (s.stampEnd sp).comps = s.comps := rfl
@[simp] theorem State.stampEnd_queue (sp : SpotId) : (s.stampEnd sp).queue = s.queue := rfl
@[simp] theorem State.stampEnd_siteTrip (sp : SpotId) : (s.stampEnd sp).siteTrip = s.siteTrip := rfl
@[simp] theorem State.stampEnd_tickets (sp : SpotId) : (s.stampEnd sp).tickets = s.tickets := rfl
@[simp] theorem State.stampEnd_ticketCounter (sp : SpotId) : (s.stampEnd sp).ticketCounter = s.ticketCounter := rfl
@[simp] theorem State.stampEnd_pendingOrder (sp : SpotId) : (s.stampEnd sp).pendingOrder = s.pendingOrder := rfl
@[simp] theorem State.stampEnd_base (sp : SpotId) : (s.stampEnd sp).base = s.base := rfl

/-! ### `State.decideOutcome` -/

@[simp] theorem State.decideOutcome_vessels (sp : SpotId) : (s.decideOutcome sp).vessels = s.vessels := by
  unfold State.decideOutcome; split; rfl; split; dsimp only; split <;> simp; simp
@[simp] theorem State.decideOutcome_comps (sp : SpotId) : (s.decideOutcome sp).comps = s.comps := by
  unfold State.decideOutcome; split; rfl; split; dsimp only; split <;> simp; simp
@[simp] theorem State.decideOutcome_queue (sp : SpotId) : (s.decideOutcome sp).queue = s.queue := by
  unfold State.decideOutcome; split; rfl; split; dsimp only; split <;> simp; simp
@[simp] theorem State.decideOutcome_siteTrip (sp : SpotId) : (s.decideOutcome sp).siteTrip = s.siteTrip := by
  unfold State.decideOutcome; split; rfl; split; dsimp only; split <;> simp; simp
@[simp] theorem State.decideOutcome_base (sp : SpotId) : (s.decideOutcome sp).base = s.base := by
  unfold State.decideOutcome; split; rfl; split; dsimp only; split <;> simp; simp

/-! ### `State.stopCompOf` -/

@[simp] theorem State.stopCompOf_spots (sp : SpotId) : (s.stopCompOf sp).spots = s.spots := by
  unfold State.stopCompOf; split <;> simp
@[simp] theorem State.stopCompOf_vessels (sp : SpotId) : (s.stopCompOf sp).vessels = s.vessels := by
  unfold State.stopCompOf; split <;> simp
@[simp] theorem State.stopCompOf_queue (sp : SpotId) : (s.stopCompOf sp).queue = s.queue := by
  unfold State.stopCompOf; split <;> simp
@[simp] theorem State.stopCompOf_siteTrip (sp : SpotId) : (s.stopCompOf sp).siteTrip = s.siteTrip := by
  unfold State.stopCompOf; split <;> simp
@[simp] theorem State.stopCompOf_tickets (sp : SpotId) : (s.stopCompOf sp).tickets = s.tickets := by
  unfold State.stopCompOf; split <;> simp
@[simp] theorem State.stopCompOf_ticketCounter (sp : SpotId) : (s.stopCompOf sp).ticketCounter = s.ticketCounter := by
  unfold State.stopCompOf; split <;> simp
@[simp] theorem State.stopCompOf_pendingOrder (sp : SpotId) : (s.stopCompOf sp).pendingOrder = s.pendingOrder := by
  unfold State.stopCompOf; split <;> simp
@[simp] theorem State.stopCompOf_base (sp : SpotId) : (s.stopCompOf sp).base = s.base := by
  unfold State.stopCompOf; split <;> simp

/-! ### `State.tripSpot` -/

@[simp] theorem State.tripSpot_siteTrip (sp : SpotId) (c : TripCause) : (s.tripSpot sp c).siteTrip = s.siteTrip := by
  unfold State.tripSpot; dsimp only; split <;> simp
@[simp] theorem State.tripSpot_tickets (sp : SpotId) (c : TripCause) : (s.tripSpot sp c).tickets = s.tickets := by
  unfold State.tripSpot; dsimp only; split <;> simp
@[simp] theorem State.tripSpot_ticketCounter (sp : SpotId) (c : TripCause) : (s.tripSpot sp c).ticketCounter = s.ticketCounter := by
  unfold State.tripSpot; dsimp only; split <;> simp
@[simp] theorem State.tripSpot_base (sp : SpotId) (c : TripCause) : (s.tripSpot sp c).base = s.base := by
  unfold State.tripSpot; dsimp only; split <;> simp

/-! ### `State.siteTripSpot` -/

@[simp] theorem State.siteTripSpot_siteTrip (sp : SpotId) : (s.siteTripSpot sp).siteTrip = s.siteTrip := by
  unfold State.siteTripSpot; split <;> simp
@[simp] theorem State.siteTripSpot_tickets (sp : SpotId) : (s.siteTripSpot sp).tickets = s.tickets := by
  unfold State.siteTripSpot; split <;> simp
@[simp] theorem State.siteTripSpot_ticketCounter (sp : SpotId) : (s.siteTripSpot sp).ticketCounter = s.ticketCounter := by
  unfold State.siteTripSpot; split <;> simp
@[simp] theorem State.siteTripSpot_base (sp : SpotId) : (s.siteTripSpot sp).base = s.base := by
  unfold State.siteTripSpot; split <;> simp

/-! ### What is left when the parts that reactions change are erased -/

variable {s} {t : State}

theorem State.powered_of_base (h : s.base = t.base) : s.powered = t.powered := (congrArg State.powered h : s.base.powered = t.base.powered)
theorem State.unit_of_base (h : s.base = t.base) : s.unit = t.unit := (congrArg State.unit h : s.base.unit = t.base.unit)
theorem State.spotCfg_of_base (h : s.base = t.base) : s.spotCfg = t.spotCfg := (congrArg State.spotCfg h : s.base.spotCfg = t.base.spotCfg)
theorem State.products_of_base (h : s.base = t.base) : s.products = t.products := (congrArg State.products h : s.base.products = t.base.products)
theorem State.vesselCfg_of_base (h : s.base = t.base) : s.vesselCfg = t.vesselCfg := (congrArg State.vesselCfg h : s.base.vesselCfg = t.base.vesselCfg)
theorem State.compCfg_of_base (h : s.base = t.base) : s.compCfg = t.compCfg := (congrArg State.compCfg h : s.base.compCfg = t.base.compCfg)
theorem State.compService_of_base (h : s.base = t.base) : s.compService = t.compService := (congrArg State.compService h : s.base.compService = t.base.compService)
theorem State.lineCfg_of_base (h : s.base = t.base) : s.lineCfg = t.lineCfg := (congrArg State.lineCfg h : s.base.lineCfg = t.base.lineCfg)
theorem State.lineUp_of_base (h : s.base = t.base) : s.lineUp = t.lineUp := (congrArg State.lineUp h : s.base.lineUp = t.base.lineUp)
theorem State.closeDown_of_base (h : s.base = t.base) : s.closeDown = t.closeDown := (congrArg State.closeDown h : s.base.closeDown = t.base.closeDown)
theorem State.linkCfg_of_base (h : s.base = t.base) : s.linkCfg = t.linkCfg := (congrArg State.linkCfg h : s.base.linkCfg = t.base.linkCfg)
theorem State.scaling_of_base (h : s.base = t.base) : s.scaling = t.scaling := (congrArg State.scaling h : s.base.scaling = t.base.scaling)
theorem State.unitMask_of_base (h : s.base = t.base) : s.unitMask = t.unitMask := (congrArg State.unitMask h : s.base.unitMask = t.base.unitMask)
theorem State.spotMask_of_base (h : s.base = t.base) : s.spotMask = t.spotMask := (congrArg State.spotMask h : s.base.spotMask = t.base.spotMask)
theorem State.lock_of_base (h : s.base = t.base) : s.lock = t.lock := (congrArg State.lock h : s.base.lock = t.base.lock)
theorem State.clock_of_base (h : s.base = t.base) : s.clock = t.clock := (congrArg State.clock h : s.base.clock = t.base.clock)
theorem State.lines_of_base (h : s.base = t.base) : s.lines = t.lines := (congrArg State.lines h : s.base.lines = t.base.lines)
theorem State.analog_of_base (h : s.base = t.base) : s.analog = t.analog := (congrArg State.analog h : s.base.analog = t.base.analog)
theorem State.bypasses_of_base (h : s.base = t.base) : s.bypasses = t.bypasses := (congrArg State.bypasses h : s.base.bypasses = t.base.bypasses)
theorem State.links_of_base (h : s.base = t.base) : s.links = t.links := (congrArg State.links h : s.base.links = t.base.links)
theorem State.failures_of_base (h : s.base = t.base) : s.failures = t.failures := (congrArg State.failures h : s.base.failures = t.base.failures)
theorem State.lockout_of_base (h : s.base = t.base) : s.lockout = t.lockout := (congrArg State.lockout h : s.base.lockout = t.base.lockout)
theorem State.pending_of_base (h : s.base = t.base) : s.pending = t.pending := (congrArg State.pending h : s.base.pending = t.base.pending)

end Sys2Proof.Machine
end

