-- ==== Sys2Proof/Laws/Reactions.lean ====
section
/-! SUPPORT. The loop of reactions: what holds after every reaction holds after all of them; and what no reaction changes. -/

namespace Sys2Proof.Machine

/-! ### Repetition -/

/-- A part of the state that one step of a fold leaves alone is left alone by the fold. -/
theorem foldl_frame {α β : Type} (g : State → β) (f : State → α → State) (h : ∀ s a, g (f s a) = g s) :
    ∀ (l : List α) (s : State), g (l.foldl f s) = g s
  | [], _ => rfl
  | a :: l, s => (foldl_frame g f h l (f s a)).trans (h s a)

/-- A condition that one step of a fold keeps is kept by the fold. -/
theorem foldl_keeps {α : Type} (P : State → Prop) (f : State → α → State) (h : ∀ s a, P s → P (f s a)) :
    ∀ (l : List α) (s : State), P s → P (l.foldl f s)
  | [], _, hs => hs
  | a :: l, s, hs => foldl_keeps P f h l (f s a) (h s a hs)

/-- A condition that every reaction keeps is kept by taking them all. -/
theorem drain_keeps (P : State → Prop) (h : ∀ s r, P s → P (s.react r).1) :
    ∀ (n : Nat) (rs : List Reaction) (s : State), P s → P (drain n rs s)
  | 0, _, _, hs => hs
  | _ + 1, [], _, hs => hs
  | n + 1, _ :: _, s, hs => drain_keeps P h n _ _ (h s _ hs)

theorem settleAll_keeps (P : State → Prop) (h : ∀ s r, P s → P (s.react r).1) (rs : List Reaction) (s : State)
    (hs : P s) : P (s.settleAll rs) := drain_keeps P h _ rs s hs

theorem settled_keeps (P : State → Prop) (h : ∀ s r, P s → P (s.react r).1) (t : Reacted) (hs : P t.1) :
    P t.settled := settleAll_keeps P h t.2 t.1 hs

/-- A relation to the starting state that every reaction keeps up holds after taking them all. -/
theorem settled_related (R : State → State → Prop) (h : ∀ s t r, R s t → R s (t.react r).1) (s : State) (t : Reacted)
    (hs : R s t.1) : R s t.settled := settled_keeps (R s) (fun u r => h s u r) t hs

@[simp] theorem drain_nil (n : Nat) (s : State) : drain n [] s = s := by cases n <;> rfl

@[simp] theorem settleAll_nil (s : State) : s.settleAll [] = s := rfl

@[simp] theorem settled_nil (s : State) : Reacted.settled (s, []) = s := rfl

/-- Taking reactions, one at a time. -/
theorem drain_cons (n : Nat) (r : Reaction) (rs : List Reaction) (s : State) :
    drain (n + 1) (r :: rs) s = drain n ((s.react r).2 ++ rs) (s.react r).1 := rfl

/-! ### What no reaction changes -/

@[simp] theorem State.siteTripPool_base (s : State) : s.siteTripPool.base = s.base :=
  foldl_frame State.base _ (fun s c => by split <;> simp) allComps s

@[simp] theorem State.takeSiteCause_base (s : State) (c : SiteCause) : (s.takeSiteCause c).base = s.base := by
  unfold State.takeSiteCause
  dsimp only
  split
  · rfl
  · rw [State.siteTripPool_base, foldl_frame State.base _ fun s a => s.deEnergise_base a,
      foldl_frame State.base _ fun s a => s.siteTripSpot_base a]
    rfl

@[simp] theorem State.issueSteps_base (sp : SpotId) :
    ∀ (l : List ListStep) (i : Nat) (s : State), (State.issueSteps sp s i l).1.base = s.base
  | [], _, _ => rfl
  | k :: rest, i, s => by
    unfold State.issueSteps
    dsimp only
    split
    · rw [State.issueSteps_base sp rest]; simp
    · simp

@[simp] theorem State.runEngine_base (s : State) (sp : SpotId) : (s.runEngine sp).1.base = s.base := by
  unfold State.runEngine
  dsimp only
  repeat' split
  all_goals simp

@[simp] theorem State.enterHeld_base (s : State) (sp : SpotId) (c : HoldCause) (v : Option Valve) :
    (s.enterHeld sp c v).1.base = s.base := by simp [State.enterHeld]

@[simp] theorem State.enterSettling_base (s : State) (sp : SpotId) (c : EndCause) :
    (s.enterSettling sp c).1.base = s.base := by simp [State.enterSettling]

@[simp] theorem State.enterClosing_base (s : State) (sp : SpotId) (b : Bool) :
    (s.enterClosing sp b).1.base = s.base := by simp [State.enterClosing]

@[simp] theorem State.endRecovery_base (s : State) (sp : SpotId) (b c : Bool) :
    (s.endRecovery sp b c).1.base = s.base := by simp [State.endRecovery]

@[simp] theorem State.enterRecovery_base (s : State) (sp : SpotId) : (s.enterRecovery sp).1.base = s.base := by
  unfold State.enterRecovery; dsimp only; split <;> simp

@[simp] theorem State.awaitComp_base (s : State) (sp : SpotId) (d : Direction) :
    (s.awaitComp sp d).1.base = s.base := by simp [State.awaitComp]

@[simp] theorem State.requestBlock_base (s : State) (sp : SpotId) : (s.requestBlock sp).1.base = s.base := by
  unfold State.requestBlock; dsimp only; repeat' split
  all_goals simp

@[simp] theorem State.ullageWaitOver_base (s : State) (sp : SpotId) : (s.ullageWaitOver sp).1.base = s.base := by
  unfold State.ullageWaitOver; split <;> simp

@[simp] theorem State.endSettling_base (s : State) (sp : SpotId) : (s.endSettling sp).1.base = s.base := by
  unfold State.endSettling; repeat' split
  all_goals simp

@[simp] theorem State.permissiveChanged_base (s : State) (sp : SpotId) (b : Bool) :
    (s.permissiveChanged sp b).1.base = s.base := by
  unfold State.permissiveChanged; repeat' split
  all_goals simp

@[simp] theorem State.vapourSeen_base (s : State) (sp : SpotId) (b : Bool) : (s.vapourSeen sp b).base = s.base := by
  unfold State.vapourSeen; split <;> simp

@[simp] theorem State.spotFunctionChanged_base (s : State) (sp : SpotId) (f : SpotFn) (b : Bool) :
    (s.spotFunctionChanged sp f b).1.base = s.base := by cases f <;> simp [State.spotFunctionChanged]

@[simp] theorem State.compFunctionChanged_base (s : State) (c : CompId) (f : CompFn) (b : Bool) :
    (s.compFunctionChanged c f b).1.base = s.base := by
  cases f <;> simp only [State.compFunctionChanged, State.runningChanged, State.directionChanged, State.directionProven] <;>
    repeat' split
  all_goals simp

@[simp] theorem State.loseComp_base (s : State) (sp : SpotId) : (s.loseComp sp).1.base = s.base := by
  unfold State.loseComp; split <;> simp

@[simp] theorem State.blockExhausted_base (s : State) (sp : SpotId) : (s.blockExhausted sp).1.base = s.base := by
  unfold State.blockExhausted; split <;> simp

@[simp] theorem State.exhaustion_base (s : State) (sp : SpotId) : (s.exhaustion sp).1.base = s.base := by
  unfold State.exhaustion; dsimp only; repeat' split
  all_goals simp

@[simp] theorem State.consumeWindow_base (s : State) (sp : SpotId) (w : WindowResult) :
    (s.consumeWindow sp w).base = s.base := by
  unfold State.consumeWindow; repeat' split
  all_goals simp

@[simp] theorem State.reactFunction_base (s : State) (f : FieldFn) (b : Bool) :
    (s.reactFunction f b).1.base = s.base := by
  cases f <;> simp only [State.reactFunction, State.highLevelChanged] <;> repeat' split
  all_goals simp

/-- No reaction changes a setting, the clock, an input, a bypass, a link or the authentication state. -/
@[simp] theorem State.react_base (s : State) (r : Reaction) : (s.react r).1.base = s.base := by
  cases r <;>
    simp only [State.react, State.reactArbiter, State.reactGrant, State.reactRun, State.reactCompFault, State.reactRelease,
      State.reactReleaseStorage, State.reactGrantPass, State.reactBlockGranted, State.reactAskFirst, State.reactLookahead,
      State.reactStartWait, State.reactTransferTest, State.reactOverpressure, State.reactRecoveryReading,
      State.reactResumeDwell, State.reactEngine, State.lineUpComplete, State.closeDownComplete, State.reactServe,
      State.reactDeparture, State.reactSpotTrip, State.reactSiteCause, State.reactWindowVessel, State.reactWindowDriver,
      State.reactPulseFault, State.reactFunction_base]
  all_goals (repeat' split)
  all_goals simp

@[simp] theorem State.settleAll_base (s : State) (rs : List Reaction) : (s.settleAll rs).base = s.base :=
  settleAll_keeps (fun t => t.base = s.base) (fun t r h => (t.react_base r).trans h) rs s rfl

@[simp] theorem settled_base (t : Reacted) : t.settled.base = t.1.base := t.1.settleAll_base t.2

end Sys2Proof.Machine
end

