-- ==== Sys2Proof/Laws/Requests.lean ====
section
/-! SUPPORT. What becomes of a request frame, and the fields of a body. -/

namespace Sys2Proof.Machine

/-! ### Frames (R175 to R177) -/

/-- A request that its link takes reaches its owner, and the link becomes BUSY with the owner's answer. -/
theorem State.takeFrame_taken {s : State} {l : Link} (h : s.takes l = true) (tag kind : Byte) (owner : State → Handled) :
    s.takeFrame l tag kind owner = (owner (s.taken l)).1.reply l tag kind (owner (s.taken l)).2 := by
  unfold State.takes LinkUnit.takes at h
  unfold State.takeFrame State.taken
  rw [Bool.and_eq_true] at h
  rw [h.1]
  generalize he : (s.link l).exchange = e at h ⊢
  generalize hr : (s.link l).rx = r at h ⊢
  cases e <;> rcases r with _ | ⟨_, b, _⟩ | _ <;> try cases b
  all_goals first | rfl | (simp at h)

/-- A valid frame whose marker arrived in a BUSY exchange is an overrun. -/
theorem State.takeFrame_overrun {s : State} {l : Link} (hp : s.powered = true) (h : (s.link l).overruns = true)
    (tag kind : Byte) (owner : State → Handled) : s.takeFrame l tag kind owner = s.overrun l := by
  unfold LinkUnit.overruns at h
  unfold State.takeFrame
  rw [hp]
  generalize (s.link l).exchange = e at h ⊢
  generalize (s.link l).rx = r at h ⊢
  cases e <;> rcases r with _ | ⟨_, b, _⟩ | _ <;> try cases b
  all_goals first | rfl | (simp at h)

/-- With the supply off no frame is received. -/
theorem State.takeFrame_off {s : State} (h : s.powered = false) (l : Link) (tag kind : Byte) (owner : State → Handled) :
    s.takeFrame l tag kind owner = s := by
  unfold State.takeFrame
  rw [h]
  rfl

/-- Everything a frame can do: nothing, an overrun, or its request with the reply. -/
theorem State.takeFrame_cases (s : State) (l : Link) (tag kind : Byte) (owner : State → Handled) :
    s.takeFrame l tag kind owner = s ∨
    (s.powered = true ∧ (s.link l).overruns = true ∧ s.takeFrame l tag kind owner = s.overrun l) ∨
    (s.takes l = true ∧
      s.takeFrame l tag kind owner = (owner (s.taken l)).1.reply l tag kind (owner (s.taken l)).2) := by
  cases hp : s.powered
  · exact .inl (s.takeFrame_off hp l tag kind owner)
  · by_cases ho : (s.link l).overruns = true
    · exact .inr (.inl ⟨rfl, ho, State.takeFrame_overrun hp ho tag kind owner⟩)
    · by_cases ht : (s.link l).takes = true
      · have ht' : s.takes l = true := by unfold State.takes; rw [hp, ht]; rfl
        exact .inr (.inr ⟨ht', State.takeFrame_taken ht' tag kind owner⟩)
      · refine .inl ?_
        unfold LinkUnit.overruns at ho
        unfold LinkUnit.takes at ht
        unfold State.takeFrame
        rw [hp]
        generalize (s.link l).exchange = e at ho ht ⊢
        generalize (s.link l).rx = r at ho ht ⊢
        cases e <;> rcases r with _ | ⟨_, b, _⟩ | _ <;> try cases b
        all_goals first | rfl | exact absurd rfl ho | exact absurd rfl ht

/-- A condition that the link interfaces do not touch survives a frame if the owner keeps it. -/
theorem State.takeFrame_keeps {P : State → Prop} {s : State} (l : Link) (tag kind : Byte) {owner : State → Handled}
    (hs : P s) (hover : ∀ t l, P t → P (State.latchLinkOverrun t l))
    (hlink : ∀ t l f, P t → P (State.modLink t l f)) (how : ∀ t, P t → P (owner t).1) :
    P (s.takeFrame l tag kind owner) := by
  rcases s.takeFrame_cases l tag kind owner with h | ⟨_, _, h⟩ | ⟨_, h⟩
  · rw [h]; exact hs
  · rw [h]; exact hover _ _ (hlink _ _ _ hs)
  · rw [h]; exact hlink _ _ _ (how _ (hlink _ _ _ hs))

/-! ### Bodies (R188) -/

@[simp] theorem be_length (w n : Nat) : (be w n).length = w := by
  induction w with
  | zero => rfl
  | succ w ih => simp [be, ih]

theorem beNat_append (a b : List Byte) : beNat (a ++ b) = beNat a * 256 ^ b.length + beNat b := by
  have fold : ∀ (l : List Byte) (n : Nat), l.foldl (fun n b => n * 256 + b.toNat) n = n * 256 ^ l.length + beNat l := by
    intro l
    induction l with
    | nil => intro n; simp [beNat]
    | cons x l ih =>
      intro n
      have h := ih x.toNat
      simp only [beNat, List.foldl_cons, List.length_cons, Nat.zero_mul, Nat.zero_add] at ih ⊢
      rw [ih, ih x.toNat]
      ring
  rw [beNat, List.foldl_append]
  exact fold b _

/-- The bytes of a number spell it, if they are enough. -/
theorem beNat_be : ∀ (w n : Nat), n < 256 ^ w → beNat (be w n) = n
  | 0, n, h => by simp at h; subst h; rfl
  | w + 1, n, h => by
    have hd : n / 256 ^ w < 256 := Nat.div_lt_of_lt_mul (by rw [← Nat.pow_succ]; exact h)
    have split : be (w + 1) n = [BitVec.ofNat 8 (n / 256 ^ w)] ++ be w n := rfl
    have low : ∀ w m : Nat, be w m = be w (m % 256 ^ w) := by
      intro w
      induction w with
      | zero => intro m; rfl
      | succ w ih =>
        intro m
        have h1 : BitVec.ofNat 8 (m / 256 ^ w) = BitVec.ofNat 8 (m % 256 ^ (w + 1) / 256 ^ w) := by
          apply BitVec.eq_of_toNat_eq
          have : m % 256 ^ (w + 1) / 256 ^ w = m / 256 ^ w % 256 := by
            rw [Nat.pow_succ, Nat.mod_mul_right_div_self]
          simp [this]
        have h2 : be w m = be w (m % 256 ^ (w + 1)) := by
          rw [ih m, ih (m % 256 ^ (w + 1)), Nat.pow_succ, Nat.mod_mul_right_mod]
        show _ :: _ = _ :: _
        rw [h1, h2]
    rw [split, beNat_append, be_length, low w n, beNat_be w _ (Nat.mod_lt _ (by positivity))]
    simp only [beNat, List.foldl_cons, List.foldl_nil, Nat.zero_mul, Nat.zero_add, BitVec.toNat_ofNat,
      Nat.mod_eq_of_lt hd]
    exact Nat.div_add_mod' n (256 ^ w)

/-- A field that begins after a prefix is read from what follows the prefix. -/
theorem field_append (a b : List Byte) (size : Nat) : field (a ++ b) a.length size = field b 0 size := by
  simp [field]

/-- A field whose bytes stand first in what is left. -/
theorem field_head (x rest : List Byte) : field (x ++ rest) 0 x.length = beNat x := by
  simp [field]

/-- A number that a field of one byte carries is read back as its index. -/
theorem oneBased_succ {n : Nat} (i : Fin n) : oneBased n (i.val + 1) = some i := by
  unfold oneBased
  rw [dif_pos ⟨Nat.succ_le_succ (Nat.zero_le _), i.isLt⟩]
  exact congrArg some (Fin.ext (by simp))

@[simp] theorem itemBody_length {n : Nat} (i : Fin n) : (itemBody i).length = 1 := be_length 1 _

/-- The body of one item names the item. -/
theorem oneBased_itemBody {n : Nat} (hn : n ≤ 255) (i : Fin n) : oneBased n (field (itemBody i) 0 1) = some i := by
  have h : field (itemBody i) 0 1 = i.val + 1 := by
    have := beNat_be 1 (i.val + 1) (by have := i.isLt; omega)
    unfold itemBody field
    simpa [be] using this
  rw [h, oneBased_succ]

theorem withLength_eq {n : Nat} {body : List Byte} (h : body.length = n) (k : State → Handled) (s : State) :
    withLength n body k s = k s := if_pos h

theorem withNumber_itemBody {n : Nat} (hn : n ≤ 255) (i : Fin n) (k : Fin n → State → Handled) (s : State) :
    withNumber (field (itemBody i) 0 1) k s = k i s := by
  unfold withNumber
  rw [oneBased_itemBody hn]

@[simp] theorem onSpot_itemBody (sp : SpotId) (k : SpotId → State → Handled) (s : State) :
    onSpot (itemBody sp) k s = k sp s := by
  unfold onSpot
  rw [withLength_eq (itemBody_length sp), withNumber_itemBody (by decide)]

theorem onSeatedSpot_itemBody {l : Link} {sp : SpotId} {s : State} (h : s.holdsSeat sp l = true)
    (k : SpotId → State → Handled) : onSeatedSpot l (itemBody sp) k s = k sp s := by
  unfold onSeatedSpot
  rw [onSpot_itemBody]
  exact if_pos h

/-! ### What the link interfaces leave alone -/

@[simp] theorem State.taken_stateOf (s : State) (l : Link) (sp : SpotId) : (s.taken l).stateOf sp = s.stateOf sp := rfl

@[simp] theorem State.taken_recordOf (s : State) (l : Link) (sp : SpotId) : (s.taken l).recordOf sp = s.recordOf sp := rfl

@[simp] theorem State.taken_holdsSeat (s : State) (l m : Link) (sp : SpotId) :
    (s.taken l).holdsSeat sp m = s.holdsSeat sp m := rfl

theorem State.taken_authenticated (s : State) (l m : Link) :
    ((s.taken l).link m).authenticated = (s.link m).authenticated := by
  unfold State.taken State.receive State.link State.modLink
  rw [Bank.get_modify]
  split <;> rfl

/-- Only the receiver of a link differs once its frame has been taken. -/
theorem State.taken_eq (s : State) (l : Link) : s.taken l = { s with links := (s.taken l).links } := rfl

/-- Only the exchange of a link differs after a reply. -/
theorem State.reply_eq (s : State) (l : Link) (tag kind : Byte) (a : Answer) :
    s.reply l tag kind a = { s with links := (s.reply l tag kind a).links } := rfl

/-- A link that has replied is BUSY with that reply. -/
theorem State.reply_exchange (s : State) (l : Link) (tag kind : Byte) (a : Answer) :
    ((s.reply l tag kind a).link l).exchange = .busy ⟨(s.link l).inForce.address, kind, tag, a.code, a.data⟩ a.after := by
  unfold State.reply State.link State.modLink
  rw [Bank.get_modify_same]

/-! ### The effective lock on a product entry (R192) -/

/-- What the effective lock lets pass: no change, or the configuration of an entry that is not configured. -/
theorem ProductCfg.heldAgainst_eq_false {old new : ProductCfg} :
    old.heldAgainst new = false ↔ new = old ∨ old.configured = false ∧ new.configured = true := by
  unfold ProductCfg.heldAgainst
  by_cases h : new = old <;> simp [h]

end Sys2Proof.Machine
end

