-- ==== Sys2Proof/Laws/Spots.lean ====
section
/-! SUPPORT. One spot's operations: the other spots are left alone, and the operations on valves and timers leave the state and
the record of the spot itself alone. -/

namespace Sys2Proof.Machine

variable (s : State)

/-! ### The change of one spot -/

@[simp] theorem State.modSpot_same (sp : SpotId) (f : Spot → Spot) : (s.modSpot sp f).spots.get sp = f (s.spots.get sp) :=
  Bank.get_modify_same _ _ _

theorem State.modSpot_other {sp q : SpotId} (f : Spot → Spot) (h : q ≠ sp) :
    (s.modSpot sp f).spots.get q = s.spots.get q := Bank.get_modify_ne _ _ (Ne.symm h)

@[simp] theorem State.modSpot_stateOf_same (sp : SpotId) (f : Spot → Spot) :
    (s.modSpot sp f).stateOf sp = (f (s.spots.get sp)).state := congrArg Spot.state (s.modSpot_same sp f)

@[simp] theorem State.modSpot_recordOf_same (sp : SpotId) (f : Spot → Spot) :
    (s.modSpot sp f).recordOf sp = (f (s.spots.get sp)).record := congrArg Spot.record (s.modSpot_same sp f)

theorem State.modSpot_keeps {α : Type} (g : Spot → α) {sp : SpotId} {f : Spot → Spot} (h : ∀ p, g (f p) = g p) (q : SpotId) :
    g ((s.modSpot sp f).spots.get q) = g (s.spots.get q) := by
  by_cases hq : q = sp
  · rw [hq, State.modSpot_same, h]
  · rw [State.modSpot_other s f hq]

theorem State.modSpot_keeps_stateOf {sp : SpotId} {f : Spot → Spot} (h : ∀ p, (f p).state = p.state) (q : SpotId) :
    (s.modSpot sp f).stateOf q = s.stateOf q := s.modSpot_keeps Spot.state h q

theorem State.modSpot_keeps_recordOf {sp : SpotId} {f : Spot → Spot} (h : ∀ p, (f p).record = p.record) (q : SpotId) :
    (s.modSpot sp f).recordOf q = s.recordOf q := s.modSpot_keeps Spot.record h q

/-! ### Operations that leave the state and the record of every spot alone -/

@[simp] theorem State.demand_stateOf (sp : SpotId) (v : Valve) (a : Action) (o : StrokeOwner) (q : SpotId) : (s.demand sp v a o).stateOf q = s.stateOf q := by
  unfold State.demand; split; rfl; split; rfl; apply State.modSpot_keeps_stateOf; exact fun _ => rfl
@[simp] theorem State.demand_recordOf (sp : SpotId) (v : Valve) (a : Action) (o : StrokeOwner) (q : SpotId) : (s.demand sp v a o).recordOf q = s.recordOf q := by
  unfold State.demand; split; rfl; split; rfl; apply State.modSpot_keeps_recordOf; exact fun _ => rfl

@[simp] theorem State.deEnergise_stateOf (sp : SpotId) (q : SpotId) : (s.deEnergise sp).stateOf q = s.stateOf q := by
  unfold State.deEnergise; apply State.modSpot_keeps_stateOf; exact fun _ => rfl
@[simp] theorem State.deEnergise_recordOf (sp : SpotId) (q : SpotId) : (s.deEnergise sp).recordOf q = s.recordOf q := by
  unfold State.deEnergise; apply State.modSpot_keeps_recordOf; exact fun _ => rfl

@[simp] theorem State.valvesOutOfService_stateOf (sp : SpotId) (q : SpotId) : (s.valvesOutOfService sp).stateOf q = s.stateOf q := by
  unfold State.valvesOutOfService; apply State.modSpot_keeps_stateOf; exact fun _ => rfl
@[simp] theorem State.valvesOutOfService_recordOf (sp : SpotId) (q : SpotId) : (s.valvesOutOfService sp).recordOf q = s.recordOf q := by
  unfold State.valvesOutOfService; apply State.modSpot_keeps_recordOf; exact fun _ => rfl

@[simp] theorem State.abandonList_stateOf (sp : SpotId) (q : SpotId) : (s.abandonList sp).stateOf q = s.stateOf q := by
  unfold State.abandonList; apply State.modSpot_keeps_stateOf; exact fun _ => rfl
@[simp] theorem State.abandonList_recordOf (sp : SpotId) (q : SpotId) : (s.abandonList sp).recordOf q = s.recordOf q := by
  unfold State.abandonList; apply State.modSpot_keeps_recordOf; exact fun _ => rfl

@[simp] theorem State.startList_stateOf (sp : SpotId) (k : ListKind) (l : List ListStep) (q : SpotId) : (s.startList sp k l).stateOf q = s.stateOf q := by
  unfold State.startList; apply State.modSpot_keeps_stateOf; exact fun _ => rfl
@[simp] theorem State.startList_recordOf (sp : SpotId) (k : ListKind) (l : List ListStep) (q : SpotId) : (s.startList sp k l).recordOf q = s.recordOf q := by
  unfold State.startList; apply State.modSpot_keeps_recordOf; exact fun _ => rfl

@[simp] theorem State.startClosedCheck_stateOf (sp : SpotId) (q : SpotId) : (s.startClosedCheck sp).stateOf q = s.stateOf q := by
  unfold State.startClosedCheck; rw [State.modSpot_keeps_stateOf (s.deEnergise sp) (f := fun p => { p with engine := .closedCheck }) (fun _ => rfl) q, State.deEnergise_stateOf]
@[simp] theorem State.startClosedCheck_recordOf (sp : SpotId) (q : SpotId) : (s.startClosedCheck sp).recordOf q = s.recordOf q := by
  unfold State.startClosedCheck; rw [State.modSpot_keeps_recordOf (s.deEnergise sp) (f := fun p => { p with engine := .closedCheck }) (fun _ => rfl) q, State.deEnergise_recordOf]

@[simp] theorem State.proofChanged_stateOf (sp : SpotId) (v : Valve) (q : SpotId) : (s.proofChanged sp v).stateOf q = s.stateOf q := by
  unfold State.proofChanged; dsimp only; split <;> (apply State.modSpot_keeps_stateOf; exact fun _ => rfl)
@[simp] theorem State.proofChanged_recordOf (sp : SpotId) (v : Valve) (q : SpotId) : (s.proofChanged sp v).recordOf q = s.recordOf q := by
  unfold State.proofChanged; dsimp only; split <;> (apply State.modSpot_keeps_recordOf; exact fun _ => rfl)

@[simp] theorem State.startWindow_stateOf (sp : SpotId) (q : SpotId) : (s.startWindow sp).stateOf q = s.stateOf q := by
  unfold State.startWindow; apply State.modSpot_keeps_stateOf; exact fun _ => rfl
@[simp] theorem State.startWindow_recordOf (sp : SpotId) (q : SpotId) : (s.startWindow sp).recordOf q = s.recordOf q := by
  unfold State.startWindow; apply State.modSpot_keeps_recordOf; exact fun _ => rfl

@[simp] theorem State.startDwell_stateOf (sp : SpotId) (q : SpotId) : (s.startDwell sp).stateOf q = s.stateOf q := by
  unfold State.startDwell; split; (apply State.modSpot_keeps_stateOf; exact fun _ => rfl); rfl
@[simp] theorem State.startDwell_recordOf (sp : SpotId) (q : SpotId) : (s.startDwell sp).recordOf q = s.recordOf q := by
  unfold State.startDwell; split; (apply State.modSpot_keeps_recordOf; exact fun _ => rfl); rfl

@[simp] theorem State.retainRecord_stateOf (sp : SpotId) (q : SpotId) : (s.retainRecord sp).stateOf q = s.stateOf q := by
  unfold State.retainRecord; apply State.modSpot_keeps_stateOf; exact fun _ => rfl
@[simp] theorem State.retainRecord_recordOf (sp : SpotId) (q : SpotId) : (s.retainRecord sp).recordOf q = s.recordOf q := by
  unfold State.retainRecord; apply State.modSpot_keeps_recordOf; exact fun _ => rfl

@[simp] theorem State.startProving_stateOf (sp : SpotId) (q : SpotId) : (s.startProving sp).stateOf q = s.stateOf q := by
  unfold State.startProving; split; (apply State.modSpot_keeps_stateOf; exact fun _ => rfl); rfl
@[simp] theorem State.startProving_recordOf (sp : SpotId) (q : SpotId) : (s.startProving sp).recordOf q = s.recordOf q := by
  unfold State.startProving; split; (apply State.modSpot_keeps_recordOf; exact fun _ => rfl); rfl

/-! ### The other spots -/

theorem State.demand_other (sp : SpotId) (v : Valve) (a : Action) (o : StrokeOwner) {q : SpotId} (h : q ≠ sp) :
    (s.demand sp v a o).spots.get q = s.spots.get q := by
  unfold State.demand; split; rfl; split; rfl; exact State.modSpot_other s _ h

theorem State.deEnergise_other (sp : SpotId) {q : SpotId} (h : q ≠ sp) :
    (s.deEnergise sp).spots.get q = s.spots.get q := by
  unfold State.deEnergise; exact State.modSpot_other s _ h

theorem State.valvesOutOfService_other (sp : SpotId) {q : SpotId} (h : q ≠ sp) :
    (s.valvesOutOfService sp).spots.get q = s.spots.get q := by
  unfold State.valvesOutOfService; exact State.modSpot_other s _ h

theorem State.abandonList_other (sp : SpotId) {q : SpotId} (h : q ≠ sp) :
    (s.abandonList sp).spots.get q = s.spots.get q := by
  unfold State.abandonList; exact State.modSpot_other s _ h

theorem State.startList_other (sp : SpotId) (k : ListKind) (l : List ListStep) {q : SpotId} (h : q ≠ sp) :
    (s.startList sp k l).spots.get q = s.spots.get q := by
  unfold State.startList; exact State.modSpot_other s _ h

theorem State.startClosedCheck_other (sp : SpotId) {q : SpotId} (h : q ≠ sp) :
    (s.startClosedCheck sp).spots.get q = s.spots.get q := by
  unfold State.startClosedCheck; rw [State.modSpot_other _ _ h, State.deEnergise_other s sp h]

theorem State.proofChanged_other (sp : SpotId) (v : Valve) {q : SpotId} (h : q ≠ sp) :
    (s.proofChanged sp v).spots.get q = s.spots.get q := by
  unfold State.proofChanged; dsimp only; split <;> exact State.modSpot_other s _ h

theorem State.overrunTest_other (sp : SpotId) {q : SpotId} (h : q ≠ sp) :
    (s.overrunTest sp).spots.get q = s.spots.get q := by
  unfold State.overrunTest; split; split; rw [State.latchSpot_spots, State.modSpot_other s _ h]; all_goals rfl

theorem State.startWindow_other (sp : SpotId) {q : SpotId} (h : q ≠ sp) :
    (s.startWindow sp).spots.get q = s.spots.get q := by
  unfold State.startWindow; exact State.modSpot_other s _ h

theorem State.processWindow_other (sp : SpotId) (r : Record) {q : SpotId} (h : q ≠ sp) :
    (s.processWindow sp r).1.spots.get q = s.spots.get q := by
  unfold State.processWindow; dsimp only; split <;> simp [State.modSpot_other s _ h]

theorem State.closeLastWindow_other (sp : SpotId) {q : SpotId} (h : q ≠ sp) :
    (s.closeLastWindow sp).spots.get q = s.spots.get q := by
  unfold State.closeLastWindow; split; rw [State.overrunTest_other _ sp h, State.processWindow_other s sp _ h]; rfl

theorem State.discardRecord_other (sp : SpotId) {q : SpotId} (h : q ≠ sp) :
    (s.discardRecord sp).spots.get q = s.spots.get q := by
  unfold State.discardRecord; exact State.modSpot_other s _ h

theorem State.startDwell_other (sp : SpotId) {q : SpotId} (h : q ≠ sp) :
    (s.startDwell sp).spots.get q = s.spots.get q := by
  unfold State.startDwell; split; exact State.modSpot_other s _ h; rfl

theorem State.recoveryResult_other (sp : SpotId) (b : Bool) {q : SpotId} (h : q ≠ sp) :
    (s.recoveryResult sp b).spots.get q = s.spots.get q := by
  unfold State.recoveryResult; exact State.modSpot_other s _ h

theorem State.moveTo_other (sp : SpotId) (st : SpotState) {q : SpotId} (h : q ≠ sp) :
    (s.moveTo sp st).spots.get q = s.spots.get q := by
  unfold State.moveTo; rw [State.modSpot_other _ _ h]; split; exact State.demand_other s sp _ _ _ h; rfl

theorem State.enterTransfer_other (sp : SpotId) {q : SpotId} (h : q ≠ sp) :
    (s.enterTransfer sp).spots.get q = s.spots.get q := by
  unfold State.enterTransfer; rw [State.modSpot_other _ _ h, State.startDwell_other _ sp h, State.demand_other _ sp _ _ _ h, State.moveTo_other s sp _ h]

theorem State.holdSpot_other (sp : SpotId) (c : HoldCause) (v : Option Valve) {q : SpotId} (h : q ≠ sp) :
    (s.holdSpot sp c v).spots.get q = s.spots.get q := by
  unfold State.holdSpot; rw [State.withdraw_spots, State.modSpot_other _ _ h, State.moveTo_other s sp _ h]

theorem State.settleSpot_other (sp : SpotId) (c : EndCause) {q : SpotId} (h : q ≠ sp) :
    (s.settleSpot sp c).spots.get q = s.spots.get q := by
  unfold State.settleSpot; rw [State.withdraw_spots, State.modSpot_other _ _ h, State.modSpot_other _ _ h, State.moveTo_other _ sp _ h, State.abandonList_other s sp h]

theorem State.closeSpot_other (sp : SpotId) {q : SpotId} (h : q ≠ sp) :
    (s.closeSpot sp).spots.get q = s.spots.get q := by
  unfold State.closeSpot; dsimp only; generalize (_ && _ : Bool) = b; cases b; exact (State.startList_other _ sp _ _ h).trans (State.moveTo_other s sp _ h); exact (State.startClosedCheck_other _ sp h).trans (State.moveTo_other s sp _ h)

theorem State.recoverSpot_other (sp : SpotId) {q : SpotId} (h : q ≠ sp) :
    (s.recoverSpot sp).spots.get q = s.spots.get q := by
  unfold State.recoverSpot; rw [State.modSpot_other _ _ h, State.moveTo_other s sp _ h]

theorem State.startProving_other (sp : SpotId) {q : SpotId} (h : q ≠ sp) :
    (s.startProving sp).spots.get q = s.spots.get q := by
  unfold State.startProving; split; exact State.modSpot_other s _ h; rfl

theorem State.openRecord_other (sp : SpotId) (o : Order) {q : SpotId} (h : q ≠ sp) :
    (s.openRecord sp o).spots.get q = s.spots.get q := by
  unfold State.openRecord; rw [State.startProving_other _ sp h, State.modSpot_other _ _ h, State.moveTo_other s sp _ h]

theorem State.vacate_other (sp : SpotId) {q : SpotId} (h : q ≠ sp) :
    (s.vacate sp).spots.get q = s.spots.get q := by
  unfold State.vacate; rw [State.moveTo_other _ sp _ h, State.discardRecord_other _ sp h, State.closeLastWindow_other s sp h]

theorem State.retainRecord_other (sp : SpotId) {q : SpotId} (h : q ≠ sp) :
    (s.retainRecord sp).spots.get q = s.spots.get q := by
  unfold State.retainRecord; exact State.modSpot_other s _ h

theorem State.completeSpot_other (sp : SpotId) (id : List Byte) (n : Nat) {q : SpotId} (h : q ≠ sp) :
    (s.completeSpot sp id n).spots.get q = s.spots.get q := by
  unfold State.completeSpot; rw [State.modSpot_other _ _ h, State.moveTo_other s sp _ h]

theorem State.placeTicket_other (sp : SpotId) {q : SpotId} (h : q ≠ sp) :
    (s.placeTicket sp).spots.get q = s.spots.get q := by
  unfold State.placeTicket; dsimp only; split; rfl; rw [State.latchTicketReady_spots, State.completeSpot_other _ sp _ _ h, State.discardRecord_other _ sp h]; exact State.closeLastWindow_other s sp h

theorem State.awaitPlacement_other (sp : SpotId) {q : SpotId} (h : q ≠ sp) :
    (s.awaitPlacement sp).spots.get q = s.spots.get q := by
  unfold State.awaitPlacement; dsimp only; split <;> simp [State.retainRecord_other _ sp h, State.modSpot_other s _ h]

/-- R22, R164: the stamp writes the clock into the spot's record, and leaves the spot's state and every other spot alone. -/
@[simp] theorem State.stampEnd_recordOf (sp : SpotId) :
    (s.stampEnd sp).recordOf sp = (s.recordOf sp).map fun r => { r with endTimestamp := some s.clockValue } :=
  s.modSpot_recordOf_same sp _
@[simp] theorem State.stampEnd_stateOf (sp : SpotId) (q : SpotId) : (s.stampEnd sp).stateOf q = s.stateOf q := by
  unfold State.stampEnd; apply State.modSpot_keeps_stateOf; exact fun _ => rfl
theorem State.stampEnd_other (sp : SpotId) {q : SpotId} (h : q ≠ sp) :
    (s.stampEnd sp).spots.get q = s.spots.get q := s.modSpot_other _ h

theorem State.decideOutcome_other (sp : SpotId) {q : SpotId} (h : q ≠ sp) :
    (s.decideOutcome sp).spots.get q = s.spots.get q := by
  unfold State.decideOutcome; split; rfl; split; dsimp only; split; rw [State.placeTicket_other _ sp h, State.stampEnd_other s sp h]; rw [State.awaitPlacement_other _ sp h, State.stampEnd_other s sp h]; exact State.vacate_other s sp h

theorem State.tripSpot_other (sp : SpotId) (c : TripCause) {q : SpotId} (h : q ≠ sp) :
    (s.tripSpot sp c).spots.get q = s.spots.get q := by
  unfold State.tripSpot; dsimp only; split <;> simp [State.retainRecord_other _ sp h, State.deEnergise_other _ sp h, State.moveTo_other _ sp _ h, State.modSpot_other _ _ h]

/-! ### Entering a state -/

@[simp] theorem State.moveTo_stateOf (sp : SpotId) (st : SpotState) : (s.moveTo sp st).stateOf sp = st := by
  unfold State.moveTo; rw [State.modSpot_stateOf_same]; rfl

@[simp] theorem State.moveTo_recordOf (sp : SpotId) (st : SpotState) :
    (s.moveTo sp st).recordOf sp = (s.recordOf sp).map fun r => { r with holdCause := none } := by
  unfold State.moveTo
  rw [State.modSpot_recordOf_same]
  show Option.map _ (State.recordOf _ sp) = _
  split
  · rw [State.demand_recordOf]
  · rfl

/-- What a demand leaves of its spot: everything but the valves. -/
theorem State.demand_same (sp : SpotId) (v : Valve) (a : Action) (o : StrokeOwner) :
    (s.demand sp v a o).spots.get sp = { s.spots.get sp with valves := ((s.demand sp v a o).spots.get sp).valves } := by
  unfold State.demand
  split
  · rfl
  · split
    · rfl
    · rw [State.modSpot_same]; rfl

/-- What a spot is on entering a state: everything of `Spot.enter` but the valves. -/
theorem State.moveTo_same (sp : SpotId) (st : SpotState) :
    (s.moveTo sp st).spots.get sp =
      { (s.spots.get sp).enter st with valves := ((s.moveTo sp st).spots.get sp).valves } := by
  unfold State.moveTo
  rw [State.modSpot_same]
  split
  · rw [State.demand_same]; rfl
  · rfl

end Sys2Proof.Machine
end

