-- ==== Sys2Proof/Laws/Entries.lean ====
section
/-! SUPPORT. What an entry to a state does, said once for each way in, in the terms of `State.entered`; and what the arbiter
chooses and a grant starts. -/

namespace Sys2Proof.Machine

variable (s : State) (sp : SpotId)

/-! ### What else an operation on a spot leaves alone: everything but the spots -/

theorem State.modSpot_eq (f : Spot → Spot) : s.modSpot sp f = { s with spots := (s.modSpot sp f).spots } := rfl

theorem State.demand_eq (v : Valve) (a : Action) (o : StrokeOwner) :
    s.demand sp v a o = { s with spots := (s.demand sp v a o).spots } := by
  unfold State.demand; split; rfl; split <;> rfl

theorem State.moveTo_eq (st : SpotState) : s.moveTo sp st = { s with spots := (s.moveTo sp st).spots } := by
  unfold State.moveTo
  split
  · rw [State.modSpot_eq, State.demand_eq]
  · rfl

/-! ### Valves -/

theorem State.modSpot_keeps_valve {f : Spot → Spot} (hf : ∀ p, (f p).valves = p.valves) (v : Valve) :
    (s.modSpot sp f).valve sp v = s.valve sp v := by
  unfold State.valve; rw [State.modSpot_same, hf]

theorem State.demand_valve_ne {v w : Valve} (a : Action) (o : StrokeOwner) (h : w ≠ v) :
    (s.demand sp v a o).valve sp w = s.valve sp w := by
  unfold State.demand; split; rfl; split; rfl
  unfold State.valve
  rw [State.modSpot_same]
  simp only [Spot.modValve]
  rw [Bank.get_modify_ne]
  revert h; cases v <;> cases w <;> decide

/-- A demand to close, on a valve of a spot in service, leaves it commanded CLOSE (R115). -/
theorem State.demand_toClose_command (v : Valve) (o : StrokeOwner) (h : (s.spotCfg.get sp).inService = true) :
    ((s.demand sp v .toClose o).valve sp v).command = .toClose := by
  unfold State.demand
  simp only [h, Bool.not_true, Bool.false_eq_true, if_false, reduceCtorEq, decide_false, Bool.false_and]
  unfold State.valve
  rw [State.modSpot_same]
  simp only [Spot.modValve]
  rw [Bank.get_modify_same]
  unfold ValveUnit.demand
  split
  · split; assumption; split <;> assumption
  · rfl

/-! ### The entry -/

/-- An entry is a matter of the spots alone. -/
theorem State.entered.congr {s t t' : State} {sp : SpotId} {st : SpotState} {f : Driver → Driver} (h : s.entered t sp st f)
    (ht : t'.spots = t.spots) : s.entered t' sp st f := by
  unfold State.entered State.valve at *
  rw [ht]; exact h

/-- An entry is the same from two states whose spots and spot records agree. -/
theorem State.entered.source {s s' t : State} {sp : SpotId} {st : SpotState} {f : Driver → Driver} (h : s.entered t sp st f)
    (hs : ∀ q, s'.spots.get q = s.spots.get q) (hc : s'.spotCfg = s.spotCfg) : s'.entered t sp st f := by
  unfold State.entered State.valve State.stateOf at *
  simp only [hs, hc]; exact h

/-- The spot controller's move to a state is an entry that starts nothing. -/
theorem State.moveTo_entered (st : SpotState) : s.entered (s.moveTo sp st) sp st id := by
  refine ⟨fun q h => s.moveTo_other sp st h, s.moveTo_same sp st, fun v hv => ?_, fun h hs => ?_⟩
  · unfold State.moveTo
    rw [State.modSpot_keeps_valve _ sp (f := Spot.enter st) (fun _ => rfl)]
    split
    · next h => exact hv.elim (s.demand_valve_ne sp _ _) fun hv => absurd h hv
    · rfl
  · unfold State.moveTo
    rw [State.modSpot_keeps_valve _ sp (f := Spot.enter st) (fun _ => rfl), if_pos h]
    exact s.demand_toClose_command sp _ _ hs

/-- What the driver starts after an entry belongs to the entry. -/
theorem State.entered.modDriver {s t : State} {sp : SpotId} {st : SpotState} {f : Driver → Driver} (h : s.entered t sp st f)
    (g : Driver → Driver) : s.entered (t.modSpot sp (Spot.modDriver g)) sp st (fun d => g (f d)) := by
  obtain ⟨others, spot, valves, lh⟩ := h
  refine ⟨fun q hq => by rw [State.modSpot_other _ _ hq, others q hq], ?_, fun v hv => ?_, fun a b => ?_⟩
  · dsimp only at spot ⊢
    rw [State.modSpot_same]
    conv_lhs => rw [spot]
    rfl
  · rw [State.modSpot_keeps_valve _ sp (f := Spot.modDriver g) (fun _ => rfl)]; exact valves v hv
  · rw [State.modSpot_keeps_valve _ sp (f := Spot.modDriver g) (fun _ => rfl)]; exact lh a b

/-- A list engine set on both sides of an entry belongs to neither. -/
theorem State.entered.setEngine {s t : State} {sp : SpotId} {st : SpotState} {f : Driver → Driver} (h : s.entered t sp st f)
    (e : Engine) : (s.modSpot sp fun p => { p with engine := e }).entered (t.modSpot sp fun p => { p with engine := e })
      sp st f := by
  obtain ⟨others, spot, valves, lh⟩ := h
  have state : (s.modSpot sp fun p => { p with engine := e }).stateOf sp = s.stateOf sp := s.modSpot_stateOf_same sp _
  have valve (u : State) (v : Valve) : (u.modSpot sp fun p => { p with engine := e }).valve sp v = u.valve sp v :=
    u.modSpot_keeps_valve sp (f := fun p => { p with engine := e }) (fun _ => rfl) v
  refine ⟨fun q hq => ?_, ?_, fun v hv => ?_, fun a b => ?_⟩
  · rw [State.modSpot_other _ _ hq, State.modSpot_other _ _ hq]; exact others q hq
  · dsimp only at spot ⊢
    rw [State.modSpot_same, State.modSpot_same]
    conv_lhs => rw [spot]
  · rw [state] at hv; rw [valve, valve]; exact valves v hv
  · rw [state] at a; rw [valve]; exact lh a b

/-- The entry to CLOSING of a record that is not ABORTED: the close-down list stands at its first step, and the queue entry is
withdrawn (R22, R85). -/
theorem State.closeSpot_entered (h : ∀ r, s.recordOf sp = some r → r.endCause ≠ some .aborted) :
    (s.modSpot sp fun p => { p with engine := .running ⟨.closeDown, s.closeDown.get sp, 0, false⟩ }).entered (s.closeSpot sp)
        sp .closing id ∧
      s.closeSpot sp = { s with
        spots := (s.closeSpot sp).spots, queue := s.queue.filter fun e => !decide (e.spot = sp) } := by
  have form : s.closeSpot sp = ((s.moveTo sp .closing).withdraw sp).startList sp .closeDown (s.closeDown.get sp) := by
    unfold State.closeSpot
    cases hr : s.recordOf sp with
    | none => rfl
    | some r => simp [h r hr]
  rw [form]
  unfold State.startList
  constructor
  · exact ((s.moveTo_entered sp .closing).congr (t' := (s.moveTo sp .closing).withdraw sp) rfl).setEngine _
  · unfold State.withdraw
    rw [State.moveTo_eq]
    rfl

/-- The result of a recovery, in the record (R109 to R112). -/
theorem State.recoveryResult_get (b : Bool) :
    (s.recoveryResult sp b).spots.get sp = { s.spots.get sp with
      record := (s.recordOf sp).map fun r => { r with
        recoveryIncomplete := b, recoveryEnd := ((s.analog.get (carChannel sp)).reading).or r.recoveryEnd } } := by
  unfold State.recoveryResult
  rw [State.modSpot_same]
  unfold Spot.modRecord State.recordOf
  congr 2
  funext r
  cases (s.analog.get (carChannel sp)).reading <;> rfl

/-! ### The arbiter's choice and the grant -/

/-- The arbiter chooses the lowest-numbered IDLE compressor at the wanted position, else the lowest-numbered IDLE one
(R86). -/
theorem State.choose_eq {s : State} {d : Direction} {c : CompId} (idle : (s.comps.get c).state = .idle)
    (first : ((s.comps.get c).position = d ∧
        (∀ b : CompId, b < c → ¬((s.comps.get b).state = .idle ∧ (s.comps.get b).position = d))) ∨
      (∀ b : CompId, ¬((s.comps.get b).state = .idle ∧ (s.comps.get b).position = d)) ∧
        ∀ b : CompId, b < c → (s.comps.get b).state ≠ .idle) : s.choose d = some c := by
  have all : ∀ b : CompId, b = 0 ∨ b = 1 ∨ b = 2 := by decide
  unfold State.choose
  rcases first with ⟨there, before⟩ | ⟨nowhere, before⟩
  · have found : s.idleAt d = some c := by
      unfold State.idleAt allComps
      rcases all c with rfl | rfl | rfl
      · simp [idle, there]
      · have := before 0 (by decide); simp_all
      · have := before 0 (by decide); have := before 1 (by decide); simp_all
    rw [found]
  · have none : s.idleAt d = none := by
      unfold State.idleAt
      rw [List.find?_eq_none]
      intro b _
      simpa using nowhere b
    have found : s.idleAny = some c := by
      unfold State.idleAny allComps
      rcases all c with rfl | rfl | rfl
      · simp [idle]
      · have := before 0 (by decide); simp_all
      · have := before 0 (by decide); have := before 1 (by decide); simp_all
    rw [none]; exact found

/-- What a grant starts (R75 to R77): a changeover, a start, or with the motor turning the run at once. -/
theorem Comp.grant_spec (cfg : CompCfg) (running : Bool) (proven : Option Direction) (d : Direction) (c : Comp)
    (idle : c.state = .idle) :
    let y := c.grant cfg running proven sp d
    let there := decide (c.position = d) || decide (proven = some d)
    (there = false → y.state = .changeoverFromIdle ∧ y.timer = some (seconds cfg.changeover)) ∧
    (there = true → running = false → y.state = .starting ∧ y.timer = some (seconds cfg.runUp)) ∧
    (there = true → running = true → y.state = d.runState ∧ y.timer = none) ∧
    y.state.runDirection.isSome = (there && running) := by
  obtain ⟨st, pos, cmd, asg, tm⟩ := c
  cases running <;> cases pos <;> cases d <;> rcases proven with _ | _ | _ <;>
    simp [Comp.grant, Comp.enterStarting, Comp.enterRun, Direction.runState, CompState.runDirection]

end Sys2Proof.Machine
end

