-- ==== Sys2Proof/Laws/Latches.lean ====
section
/-! SUPPORT. What latching does to the latch unit: nothing set is cleared (R182). -/

namespace Sys2Proof.Machine

theorem Latches.keptIn_refl (a : Latches) : a.keptIn a :=
  ⟨id, fun _ => id, fun _ => id, fun _ => id, id, id, fun _ => id, fun _ => id, id, id, id, fun _ => BitVec.and_self⟩

theorem Latches.keptIn_of_eq {a b : Latches} (h : a = b) : a.keptIn b := h ▸ a.keptIn_refl

/-- What is kept from one latch unit to a second and from that to a third is kept from the first to the third. -/
theorem Latches.keptIn_trans {a b c : Latches} (hab : a.keptIn b) (hbc : b.keptIn c) : a.keptIn c := by
  obtain ⟨a₁, a₂, a₃, a₄, a₅, a₆, a₇, a₈, a₉, a₁₀, a₁₁, a₁₂⟩ := hab
  obtain ⟨b₁, b₂, b₃, b₄, b₅, b₆, b₇, b₈, b₉, b₁₀, b₁₁, b₁₂⟩ := hbc
  exact ⟨b₁ ∘ a₁, fun v => b₂ v ∘ a₂ v, fun v => b₃ v ∘ a₃ v, fun k => b₄ k ∘ a₄ k, b₅ ∘ a₅, b₆ ∘ a₆,
    fun f => b₇ f ∘ a₇ f, fun i => b₈ i ∘ a₈ i, b₉ ∘ a₉, b₁₀ ∘ a₁₀, b₁₁ ∘ a₁₁,
    fun sp => by rw [← a₁₂ sp, BitVec.and_assoc, b₁₂ sp]⟩

/-- A bank of marks with one mark set keeps the marks it had. -/
theorem marks_kept {n : Nat} (b : Bank n Bool) (i j : Fin n) (h : b.get j = true) : (b.set i true).get j = true := by
  rw [Bank.get_set]
  split
  · rfl
  · exact h

variable (s : State)

theorem State.latchSpot_kept (sp : SpotId) (k : SpotLatch) : s.latches.keptIn (s.latchSpot sp k).latches := by
  refine ⟨id, fun _ => id, fun _ => id, fun _ => id, id, id, fun _ => id, fun _ => id, id, id, id, fun q => ?_⟩
  dsimp only [State.latchSpot]
  rw [Bank.get_modify]
  split
  · ext i; simp only [BitVec.getElem_and, BitVec.getElem_or]; cases (s.latches.spot.get q)[i] <;> rfl
  · exact BitVec.and_self

theorem State.latchSpotIf_kept (b : Bool) (sp : SpotId) (k : SpotLatch) :
    s.latches.keptIn (s.latchSpotIf b sp k).latches := by
  unfold State.latchSpotIf
  split
  · exact s.latchSpot_kept sp k
  · exact s.latches.keptIn_refl

theorem State.latchSiteTrip_kept : s.latches.keptIn s.latchSiteTrip.latches :=
  { s.latches.keptIn_refl with left := fun _ => rfl }

theorem State.latchVesselStale_kept (v : VesselId) : s.latches.keptIn (s.latchVesselStale v).latches :=
  ⟨id, marks_kept _ v, fun _ => id, fun _ => id, id, id, fun _ => id, fun _ => id, id, id, id, fun _ => BitVec.and_self⟩

theorem State.latchVesselHigh_kept (v : VesselId) : s.latches.keptIn (s.latchVesselHigh v).latches :=
  ⟨id, fun _ => id, marks_kept _ v, fun _ => id, id, id, fun _ => id, fun _ => id, id, id, id, fun _ => BitVec.and_self⟩

theorem State.latchCompFault_kept (c : CompId) : s.latches.keptIn (s.latchCompFault c).latches :=
  ⟨id, fun _ => id, fun _ => id, marks_kept _ c, id, id, fun _ => id, fun _ => id, id, id, id, fun _ => BitVec.and_self⟩

theorem State.latchTicketReady_kept : s.latches.keptIn s.latchTicketReady.latches :=
  ⟨id, fun _ => id, fun _ => id, fun _ => id, fun _ => rfl, id, fun _ => id, fun _ => id, id, id, id,
    fun _ => BitVec.and_self⟩

theorem State.latchTicketQueueFull_kept : s.latches.keptIn s.latchTicketQueueFull.latches :=
  ⟨id, fun _ => id, fun _ => id, fun _ => id, id, fun _ => rfl, fun _ => id, fun _ => id, id, id, id,
    fun _ => BitVec.and_self⟩

theorem State.latchInputEdge_kept (f : FieldFn) : s.latches.keptIn (s.latchInputEdge f).latches := by
  refine ⟨id, fun _ => id, fun _ => id, fun _ => id, id, id, fun g hg => ?_, fun _ => id, id, id, id,
    fun _ => BitVec.and_self⟩
  dsimp only [State.latchInputEdge]
  split
  · exact hg
  · exact List.mem_append_left _ hg

theorem State.latchLinkOverrun_kept (l : Link) : s.latches.keptIn (s.latchLinkOverrun l).latches :=
  ⟨id, fun _ => id, fun _ => id, fun _ => id, id, id, fun _ => id, marks_kept _ (linkIndex l), id, id, id,
    fun _ => BitVec.and_self⟩

theorem State.latchAuthLockout_kept : s.latches.keptIn s.latchAuthLockout.latches :=
  ⟨id, fun _ => id, fun _ => id, fun _ => id, id, id, fun _ => id, fun _ => id, fun _ => rfl, id, id,
    fun _ => BitVec.and_self⟩

theorem State.latchRestarted_kept : s.latches.keptIn s.latchRestarted.latches :=
  ⟨id, fun _ => id, fun _ => id, fun _ => id, id, id, fun _ => id, fun _ => id, id, fun _ => rfl, fun _ => rfl,
    fun _ => BitVec.and_self⟩

end Sys2Proof.Machine
end

