-- ==== Sys2Proof/Laws/PerInstr.lean ====
section
/-! SUPPORT. One lemma per command on how a request is written down: the kind code of a request names its command, and its
body fits a frame (sections 10.1 and 10.2). -/

namespace Sys2Proof.Laws.RequestShape

open Sys2Proof

/-- A well-formed request is the one that its own kind code names in the catalogue, and its body fits a frame. -/
def Statement (i : Instr) : Prop :=
  ∀ (l : Link) (kind tag : Byte) (body : List Byte), i.wellFormed = true → i.request = some (l, kind, tag, body) →
    requestOfFrame l kind tag body = i ∧ body.length ≤ Config.bodyMax

/-- A command that is no request meets the statement. -/
theorem of_event {i : Instr} (h : i.request = none) : Statement i := by
  intro l kind tag body _ hr
  rw [h] at hr
  exact absurd hr (by simp)

/-- A command whose kind code the catalogue gives back meets the statement. -/
theorem of_request {i : Instr} {l : Link} {kind tag : Byte} {body : List Byte} (hr : i.request = some (l, kind, tag, body))
    (hf : requestOfFrame l kind tag body = i) (hb : i.wellFormed = true → body.length ≤ Config.bodyMax) : Statement i := by
  intro l' kind' tag' body' hw h
  rw [hr] at h
  cases h
  exact ⟨hf, hb hw⟩

/-- A kind code outside the catalogue names the uncatalogued request. -/
theorem outside {l : Link} {kind tag : Byte} {body : List Byte} (h : catalogue.contains kind = false) :
    requestOfFrame l kind tag body = .uncataloguedRequest l tag kind body := by
  have hn : requestTable.find? (fun r => r.1 == kind) = none := by
    rw [List.find?_eq_none]
    intro r hr he
    have hk : kind ∈ requestTable.map Prod.fst := (beq_iff_eq.mp he) ▸ List.mem_map_of_mem hr
    have ht : requestTable.map Prod.fst = catalogue := rfl
    rw [ht, ← List.contains_iff_mem, h] at hk
    exact absurd hk (by simp)
  simp [requestOfFrame, hn]

theorem readStatus (l : Link) (tag : Byte) (body : List Byte) : Statement (.readStatus l tag body) :=
  of_request rfl rfl of_decide_eq_true
theorem readSpot (l : Link) (tag : Byte) (body : List Byte) : Statement (.readSpot l tag body) :=
  of_request rfl rfl of_decide_eq_true
theorem readVessel (l : Link) (tag : Byte) (body : List Byte) : Statement (.readVessel l tag body) :=
  of_request rfl rfl of_decide_eq_true
theorem readCompressor (l : Link) (tag : Byte) (body : List Byte) : Statement (.readCompressor l tag body) :=
  of_request rfl rfl of_decide_eq_true
theorem readInputs (l : Link) (tag : Byte) (body : List Byte) : Statement (.readInputs l tag body) :=
  of_request rfl rfl of_decide_eq_true
theorem readTicket (l : Link) (tag : Byte) (body : List Byte) : Statement (.readTicket l tag body) :=
  of_request rfl rfl of_decide_eq_true
theorem readSnapshot (l : Link) (tag : Byte) (body : List Byte) : Statement (.readSnapshot l tag body) :=
  of_request rfl rfl of_decide_eq_true
theorem readConfig (l : Link) (tag : Byte) (body : List Byte) : Statement (.readConfig l tag body) :=
  of_request rfl rfl of_decide_eq_true
theorem carOrder (l : Link) (tag : Byte) (body : List Byte) : Statement (.carOrder l tag body) :=
  of_request rfl rfl of_decide_eq_true
theorem listClear (l : Link) (tag : Byte) (body : List Byte) : Statement (.listClear l tag body) :=
  of_request rfl rfl of_decide_eq_true
theorem start (l : Link) (tag : Byte) (body : List Byte) : Statement (.start l tag body) :=
  of_request rfl rfl of_decide_eq_true
theorem stop (l : Link) (tag : Byte) (body : List Byte) : Statement (.stop l tag body) :=
  of_request rfl rfl of_decide_eq_true
theorem abort (l : Link) (tag : Byte) (body : List Byte) : Statement (.abort l tag body) :=
  of_request rfl rfl of_decide_eq_true
theorem hold (l : Link) (tag : Byte) (body : List Byte) : Statement (.hold l tag body) :=
  of_request rfl rfl of_decide_eq_true
theorem resume (l : Link) (tag : Byte) (body : List Byte) : Statement (.resume l tag body) :=
  of_request rfl rfl of_decide_eq_true
theorem spotReset (l : Link) (tag : Byte) (body : List Byte) : Statement (.spotReset l tag body) :=
  of_request rfl rfl of_decide_eq_true
theorem spotTripReset (l : Link) (tag : Byte) (body : List Byte) : Statement (.spotTripReset l tag body) :=
  of_request rfl rfl of_decide_eq_true
theorem valveCommand (l : Link) (tag : Byte) (body : List Byte) : Statement (.valveCommand l tag body) :=
  of_request rfl rfl of_decide_eq_true
theorem seatTake (l : Link) (tag : Byte) (body : List Byte) : Statement (.seatTake l tag body) :=
  of_request rfl rfl of_decide_eq_true
theorem seatYield (l : Link) (tag : Byte) (body : List Byte) : Statement (.seatYield l tag body) :=
  of_request rfl rfl of_decide_eq_true
theorem compressorReset (l : Link) (tag : Byte) (body : List Byte) : Statement (.compressorReset l tag body) :=
  of_request rfl rfl of_decide_eq_true
theorem tankUllage (l : Link) (tag : Byte) (body : List Byte) : Statement (.tankUllage l tag body) :=
  of_request rfl rfl of_decide_eq_true
theorem releaseTicket (l : Link) (tag : Byte) (body : List Byte) : Statement (.releaseTicket l tag body) :=
  of_request rfl rfl of_decide_eq_true
theorem clearLatches (l : Link) (tag : Byte) (body : List Byte) : Statement (.clearLatches l tag body) :=
  of_request rfl rfl of_decide_eq_true
theorem setMask (l : Link) (tag : Byte) (body : List Byte) : Statement (.setMask l tag body) :=
  of_request rfl rfl of_decide_eq_true
theorem siteTrip (l : Link) (tag : Byte) (body : List Byte) : Statement (.siteTrip l tag body) :=
  of_request rfl rfl of_decide_eq_true
theorem configure (l : Link) (tag : Byte) (body : List Byte) : Statement (.configure l tag body) :=
  of_request rfl rfl of_decide_eq_true
theorem listLoad (l : Link) (tag : Byte) (body : List Byte) : Statement (.listLoad l tag body) :=
  of_request rfl rfl of_decide_eq_true
theorem bypassSet (l : Link) (tag : Byte) (body : List Byte) : Statement (.bypassSet l tag body) :=
  of_request rfl rfl of_decide_eq_true
theorem bypassEnd (l : Link) (tag : Byte) (body : List Byte) : Statement (.bypassEnd l tag body) :=
  of_request rfl rfl of_decide_eq_true
theorem compressorService (l : Link) (tag : Byte) (body : List Byte) : Statement (.compressorService l tag body) :=
  of_request rfl rfl of_decide_eq_true
theorem siteTripReset (l : Link) (tag : Byte) (body : List Byte) : Statement (.siteTripReset l tag body) :=
  of_request rfl rfl of_decide_eq_true
theorem setClock (l : Link) (tag : Byte) (body : List Byte) : Statement (.setClock l tag body) :=
  of_request rfl rfl of_decide_eq_true
theorem lockMetrology (l : Link) (tag : Byte) (body : List Byte) : Statement (.lockMetrology l tag body) :=
  of_request rfl rfl of_decide_eq_true
theorem restart (l : Link) (tag : Byte) (body : List Byte) : Statement (.restart l tag body) :=
  of_request rfl rfl of_decide_eq_true
theorem authenticate (l : Link) (tag : Byte) (body : List Byte) : Statement (.authenticate l tag body) :=
  of_request rfl rfl of_decide_eq_true
theorem deauthenticate (l : Link) (tag : Byte) (body : List Byte) : Statement (.deauthenticate l tag body) :=
  of_request rfl rfl of_decide_eq_true
theorem uncataloguedRequest (l : Link) (tag kind : Byte) (body : List Byte) :
    Statement (.uncataloguedRequest l tag kind body) := by
  intro l' kind' tag' body' hw h
  cases h
  simp only [Instr.wellFormed, Bool.and_eq_true, Bool.not_eq_true'] at hw
  exact ⟨outside hw.2, of_decide_eq_true hw.1⟩
theorem frameRejected (l : Link) (bytes : List Byte) : Statement (.frameRejected l bytes) := of_event rfl
theorem linkOverrun (l : Link) : Statement (.linkOverrun l) := of_event rfl
theorem frameSilenceTimeout (l : Link) : Statement (.frameSilenceTimeout l) := of_event rfl
theorem discardSilenceEnd (l : Link) : Statement (.discardSilenceEnd l) := of_event rfl
theorem replySent (l : Link) : Statement (.replySent l) := of_event rfl
theorem powerUp : Statement (.powerUp) := of_event rfl
theorem supplyLoss : Statement (.supplyLoss) := of_event rfl
theorem rawLevelChange (line : LineId) (level : Level) : Statement (.rawLevelChange line level) := of_event rfl
theorem filterAccept (line : LineId) : Statement (.filterAccept line) := of_event rfl
theorem analogConversion (ch : ChannelId) (microamps : Nat) : Statement (.analogConversion ch microamps) := of_event rfl
theorem pulseEdge (sp : SpotId) (ch : PulseChannel) : Statement (.pulseEdge sp ch) := of_event rfl
theorem windowClose (sp : SpotId) : Statement (.windowClose sp) := of_event rfl
theorem provingExpiry (sp : SpotId) : Statement (.provingExpiry sp) := of_event rfl
theorem tempHoldExpiry (sp : SpotId) : Statement (.tempHoldExpiry sp) := of_event rfl
theorem ullageAgeExpiry (v : VesselId) : Statement (.ullageAgeExpiry v) := of_event rfl
theorem ullageWaitExpiry (sp : SpotId) : Statement (.ullageWaitExpiry sp) := of_event rfl
theorem changeoverExpiry (c : CompId) : Statement (.changeoverExpiry c) := of_event rfl
theorem runUpExpiry (c : CompId) : Statement (.runUpExpiry c) := of_event rfl
theorem runDownExpiry (c : CompId) : Statement (.runDownExpiry c) := of_event rfl
theorem halfDwell (sp : SpotId) : Statement (.halfDwell sp) := of_event rfl
theorem dwellExpiry (sp : SpotId) : Statement (.dwellExpiry sp) := of_event rfl
theorem pressuriseExpiry (sp : SpotId) : Statement (.pressuriseExpiry sp) := of_event rfl
theorem stallExpiry (sp : SpotId) : Statement (.stallExpiry sp) := of_event rfl
theorem settleTimerExpiry (sp : SpotId) : Statement (.settleTimerExpiry sp) := of_event rfl
theorem settleLimitExpiry (sp : SpotId) : Statement (.settleLimitExpiry sp) := of_event rfl
theorem recoveryProvingExpiry (sp : SpotId) : Statement (.recoveryProvingExpiry sp) := of_event rfl
theorem recoveryLimitExpiry (sp : SpotId) : Statement (.recoveryLimitExpiry sp) := of_event rfl
theorem strokeTimeout (sp : SpotId) (v : Valve) : Statement (.strokeTimeout sp v) := of_event rfl
theorem disagreementExpiry (sp : SpotId) (v : Valve) : Statement (.disagreementExpiry sp v) := of_event rfl
theorem bypassExpiry (sp : SpotId) (f : BypassFn) : Statement (.bypassExpiry sp f) := of_event rfl
theorem clockTick : Statement (.clockTick) := of_event rfl
theorem markerReceived (l : Link) : Statement (.markerReceived l) := of_event rfl

end Sys2Proof.Laws.RequestShape
end

