-- ==== Sys2Proof/Laws/Quiet.lean ====
section
/-! SUPPORT. Where reactions come to an end: the state that taking some reactions leaves when what they set off finds nothing
to do. -/

namespace Sys2Proof.Machine

/-- Taking some reactions leaves a state, whatever the fuel from some number on. -/
def Drains (k : Nat) (s : State) (rs : List Reaction) (t : State) : Prop := ∀ n, k ≤ n → drain n rs s = t

theorem Drains.nil (k : Nat) (s : State) : Drains k s [] s := fun n _ => drain_nil n s

theorem Drains.cons {k : Nat} {s t : State} {r : Reaction} {rs : List Reaction}
    (h : Drains k (s.react r).1 ((s.react r).2 ++ rs) t) : Drains (k + 1) s (r :: rs) t := by
  intro n hn
  obtain ⟨m, rfl⟩ := Nat.exists_eq_add_of_le' hn
  rw [Nat.add_comm m, Nat.add_right_comm, drain_cons]
  exact h _ (by omega)

theorem Drains.weaken {j k : Nat} {s t : State} {rs : List Reaction} (h : Drains j s rs t) (hjk : j ≤ k) :
    Drains k s rs t := fun n hn => h n (by omega)

/-- A change whose reactions come to an end. -/
theorem Drains.settled {k : Nat} {s t : State} {rs : List Reaction} (h : Drains k s rs t) (hk : k ≤ 4000) :
    Reacted.settled (s, rs) = t := h Config.cascadeFuel hk

/-- A reaction that finds nothing to do. -/
theorem Drains.idle {k : Nat} {s t : State} {r : Reaction} {rs : List Reaction} (hr : s.react r = (s, []))
    (h : Drains k s rs t) : Drains (k + 1) s (r :: rs) t := by
  apply Drains.cons
  rw [hr]
  exact h

/-- A reaction that sets off no other. -/
theorem Drains.alone {k : Nat} {s u t : State} {r : Reaction} {rs : List Reaction} (hr : s.react r = (u, []))
    (h : Drains k u rs t) : Drains (k + 1) s (r :: rs) t := by
  apply Drains.cons
  rw [hr]
  exact h

/-! ### The arbiter and the compressors (R86, R89) -/

theorem State.find?_comps_none {p : CompId → Bool} (h : ∀ c, p c = false) : allComps.find? p = none := by
  rw [List.find?_eq_none]
  intro c _
  rw [h c]
  exact Bool.false_ne_true

/-- With no compressor IDLE the arbiter chooses none. -/
theorem State.choose_none {s : State} (h : s.noneIdle) (d : Direction) : s.choose d = none := by
  unfold State.choose State.idleAt State.idleAny
  rw [State.find?_comps_none (fun c => by simp [h c]), State.find?_comps_none (fun c => by simp [h c])]

/-- The arbiter finds nothing to do with an empty queue. -/
theorem State.react_arbiter_empty {s : State} (h : s.queue = []) : s.react .arbiter = (s, []) := by
  change s.reactArbiter = _
  unfold State.reactArbiter
  rw [h]
  simp

/-- The arbiter finds nothing to do while the site trip is active. -/
theorem State.react_arbiter_tripped {s : State} (h : s.siteTrip.active = true) : s.react .arbiter = (s, []) := by
  change s.reactArbiter = _
  unfold State.reactArbiter
  rw [if_pos h]

/-- The arbiter finds nothing to do with no compressor IDLE. -/
theorem State.react_arbiter_noneIdle {s : State} (h : s.noneIdle) : s.react .arbiter = (s, []) := by
  change s.reactArbiter = _
  unfold State.reactArbiter
  split
  · rfl
  · cases s.queue with
    | nil => rfl
    | cons e rest => dsimp only; rw [State.choose_none h]

/-- A spot's release of its compressor with an empty queue stops the compressor and nothing more. -/
theorem Drains.releaseCompressor {k : Nat} {s t : State} {sp : SpotId} {b : Bool} {rs : List Reaction}
    (hq : s.queue = []) (h : Drains k (s.stopCompOf sp) rs t) : Drains (k + 2) s (.releaseCompressor sp b :: rs) t := by
  have hr : s.react (.releaseCompressor sp b) =
      (s.stopCompOf sp, if (s.compOf sp).isSome then [.arbiter] else []) := by
    change s.reactRelease sp b = _
    unfold State.reactRelease State.stopCompOf
    cases hc : s.compOf sp with
    | none => rfl
    | some c => dsimp only; rw [hq]; rfl
  apply Drains.cons
  rw [hr]
  dsimp only
  split
  · exact Drains.idle (State.react_arbiter_empty (by simpa using hq)) h
  · exact h.weaken (by omega)

/-! ### Storage (R60, R67) -/

/-- A grant pass finds nothing to do with an empty pending list. -/
theorem State.react_grantPass_empty {s : State} {v : VesselId} (h : (s.vessels.get v).requests = []) :
    s.react (.grantPass v) = (s, []) := by
  change s.reactGrantPass v = _
  unfold State.reactGrantPass
  rw [h]

theorem Vessel.release_requests_of {v : Vessel} {sp : SpotId} (h : ∀ q ∈ v.requests, q.spot = sp) :
    (v.release sp).requests = [] := by
  unfold Vessel.release
  simp only [List.filter_eq_nil_iff]
  intro q hq
  simp [h q hq]

@[simp] theorem Vessel.release_holds (v : Vessel) (sp : SpotId) : (v.release sp).holds sp = false := by
  simp [Vessel.holds, Vessel.hasAny, Vessel.hasRequest, Vessel.release, List.any_filter]

/-- A spot's release of its storage where no other spot has a request pending. -/
theorem Drains.releaseStorage {k : Nat} {s t : State} {sp : SpotId} {rs : List Reaction}
    (hv : ∀ v : VesselId, ∀ q ∈ (s.vessels.get v).requests, q.spot = sp) (h : Drains k (s.releaseStorage sp) rs t) :
    Drains (k + 2) s (.releaseStorage sp :: rs) t := by
  apply Drains.cons
  change Drains _ (s.reactReleaseStorage sp).1 ((s.reactReleaseStorage sp).2 ++ rs) t
  unfold State.reactReleaseStorage
  unfold State.releaseStorage at h ⊢
  cases hd : s.vesselOf sp with
  | none => rw [hd] at h; exact h.weaken (by omega)
  | some v =>
    rw [hd] at h
    dsimp only at h ⊢
    split
    · refine Drains.idle (State.react_grantPass_empty ?_) h
      unfold State.modVessel
      rw [Bank.get_modify_same]
      exact Vessel.release_requests_of (hv v)
    · exact h.weaken (by omega)

/-! ### Block grants (R62) -/

/-- In PAUSED (COMPRESSOR) the grant of a next reservation finds nothing to do. -/
theorem State.react_blockGranted_next {s : State} {sp : SpotId} (hs : s.stateOf sp = .paused .compressor)
    (hn : s.hasNext sp = true) : s.react (.blockGranted sp) = (s, []) := by
  change s.reactBlockGranted sp = _
  unfold State.reactBlockGranted
  rw [hs]
  simp only [hn, if_true]

/-- In PAUSED (COMPRESSOR) the grant of a current reservation is a test for TRANSFER. -/
theorem State.react_blockGranted_current {s : State} {sp : SpotId} (hs : s.stateOf sp = .paused .compressor)
    (hn : s.hasNext sp = false) : s.react (.blockGranted sp) = (s, [.transferTest sp]) := by
  change s.reactBlockGranted sp = _
  unfold State.reactBlockGranted
  rw [hs]
  simp [hn]

/-! ### The direction feedback (R73, R76, R79) -/

/-- Feedback that proves a direction sets the position to it and leaves the assignment and the commanded direction; the state
and the timer move only in a changeover. -/
theorem Comp.directionFeedback_of_proven (cfg : CompCfg) (running : Bool) (d : Direction) (c : Comp) :
    let x := c.directionFeedback cfg running (some d)
    x.position = d ∧ x.assigned = c.assigned ∧ x.commanded = c.commanded ∧
      (c.state ≠ .changeoverFromIdle → c.state ≠ .changeoverInPlace → x.state = c.state ∧ x.timer = c.timer) := by
  unfold Comp.directionFeedback Comp.enterStarting Comp.enterRun
  cases c with | mk st pos com asg tm =>
  cases st <;> cases asg <;> simp <;> (repeat' split) <;> simp_all

/-! ### The car pressure (R107) -/

/-- The overpressure test finds nothing below the car maximum. -/
theorem State.react_overpressure_safe {s : State} {sp : SpotId} (h : s.pressureSafe sp = true) :
    s.react (.overpressureTest sp) = (s, []) := by
  unfold State.pressureSafe at h
  change s.reactOverpressure sp = _
  unfold State.reactOverpressure State.overpressure
  cases hg : s.goodReading (carChannel sp) with
  | none => simp
  | some x =>
    rw [hg] at h
    have : ¬ ((s.spotCfg.get sp).carMaximum : Int) ≤ x := by simpa using h
    simp [this]

/-- The car pressure is judged by settings and channels alone. -/
theorem State.pressureSafe_of_base {s t : State} (h : s.base = t.base) (sp : SpotId) :
    s.pressureSafe sp = t.pressureSafe sp := by
  have h1 : s.analog = t.analog := State.analog_of_base h
  have h2 : s.spotCfg = t.spotCfg := State.spotCfg_of_base h
  unfold State.pressureSafe State.goodReading
  rw [h1, h2]

/-! ### Functions and the list engine (R121) -/

/-- The readings are those of the settings, the lines and the bypasses alone. -/
theorem State.reading_of_base {s t : State} (h : s.base = t.base) (f : FieldFn) : s.reading f = t.reading f := by
  have h1 : s.lineCfg = t.lineCfg := State.lineCfg_of_base h
  have h2 : s.lines = t.lines := State.lines_of_base h
  have h3 : s.bypasses = t.bypasses := State.bypasses_of_base h
  unfold State.reading State.bypassOn State.lineValue State.lineOf
  rw [h1, h2, h3]

theorem State.shows_of_base {s t : State} (h : s.base = t.base) (sp : SpotId) (v : Valve) (a : Action) :
    s.shows sp v a = t.shows sp v a := by
  unfold State.shows State.position
  rw [State.reading_of_base h, State.reading_of_base h]

theorem State.firstStepWaits_of_base {s t : State} (h : s.base = t.base) (sp : SpotId) (steps : List ListStep) :
    s.firstStepWaits sp steps = t.firstStepWaits sp steps := by
  unfold State.firstStepWaits
  cases steps with
  | nil => rfl
  | cons k _ => dsimp only; rw [State.shows_of_base h]

/-- An engine whose next step waits for its proof issues that step and stops there. -/
theorem State.react_engineRun_waits {s : State} {sp : SpotId} {r : ListRun} (he : (s.spots.get sp).engine = .running r)
    (hw : r.waiting = false) (hf : s.firstStepWaits sp (r.steps.drop r.issued) = true) :
    ∃ k rest, r.steps.drop r.issued = k :: rest ∧
      s.react (.engineRun sp) =
        ((s.demand sp k.valve k.action (.listStep r.issued)).modSpot sp fun p =>
          { p with engine := .running { r with issued := r.issued + 1, waiting := true } }, []) := by
  unfold State.firstStepWaits at hf
  cases hd : r.steps.drop r.issued with
  | nil => rw [hd] at hf; exact absurd hf Bool.false_ne_true
  | cons k rest =>
    rw [hd] at hf
    refine ⟨k, rest, rfl, ?_⟩
    dsimp only at hf
    rw [Bool.and_eq_true, Bool.not_eq_true'] at hf
    have hs : (s.demand sp k.valve k.action (.listStep r.issued)).shows sp k.valve k.action = false :=
      (State.shows_of_base (State.demand_base s sp k.valve k.action _) sp k.valve k.action).trans hf.2
    change s.reactEngine sp = _
    unfold State.reactEngine State.runEngine
    rw [he]
    dsimp only
    have hp : s.stepProven sp r = true := by unfold State.stepProven; rw [hw]; rfl
    have hi : State.issueSteps sp s r.issued (k :: rest) =
        (s.demand sp k.valve k.action (.listStep r.issued), r.issued + 1, true) := by
      simp [State.issueSteps, hs, hf.1]
    rw [if_pos hp, hd, hi]
    rfl

end Sys2Proof.Machine
end

