-- ==== Sys2Proof/Tests/Slice0.lean ====
section
/-! SUPPORT. Tests: the well-formedness checks refuse, frames written out byte by byte decode, the manual's worked values come
out, and for every statement about the controller a state that meets its hypotheses. -/

namespace Sys2Proof.Tests

set_option Elab.async false

open Sys2Proof Sys2Proof.Machine

/-! ### The rig -/

/-- The state after a command. -/
def after (c : Instr) (s : State) : State :=
  match exec c s with
  | .next t => t
  | .fault _ => s
  | .refused _ => s

/-- A step answers a next state. -/
def goesOn (s : State) : Bool :=
  match step s with
  | .next _ => true
  | .fault _ => false
  | .refused _ => false

/-- An order of car "A1": product 1, vessel 1, 1,000 kg in blocks of 500 kg, no recovery. -/
def rigOrder : Order := ⟨[0x41, 0x31], 0, 0, .preset 1000, 500, none, none⟩

/-- A controller with spot 1 in service, product 1 configured with the values of section 2.8, vessel 1 reported at 10,000 kg,
and no compressor free. -/
def rig : State :=
  { State.reset with
    spotCfg := State.reset.spotCfg.modify 0 fun c => { c with inService := true, kFactor := 500000, meterFactor := 10030 }
    products := State.reset.products.set 0 ⟨true, 2900, 5071, 150⟩
    vessels := State.reset.vessels.modify 0 fun v => { v with ullage := 10000, age := some 0, stale := false }
    comps := State.reset.comps.map fun c => { c with state := .outOfService } }

/-- The rig with spot 1 in a state, a record open in a phase and a window running. -/
def rigAt (st : SpotState) (ph : Phase) : State :=
  rig.modSpot 0 fun p =>
    { p with
      state := st
      record := some { Record.opened rigOrder with phase := ph }
      meter := { p.meter with window := some 0 } }

/-- Spot 1 with a compressor running for it and a block of 500 kg. -/
def holding (st : SpotState) : State :=
  ((rigAt st .liquid).modComp 0 fun c => { c with state := .runPush, assigned := some (0, .push) }).modVessel 0 (Vessel.grant 0 500)

/-- Spot 1 in TRANSFER: LH open, the dwell and stall timers run out. -/
def transferring : State :=
  (holding .transfer).modSpot 0 fun p =>
    { p with
      valves := p.valves.modify 4 fun u => { u with command := .toOpen, stroke := some ⟨.toOpen, 0, .lh⟩ }
      driver := { p.driver with dwell := some 0, stall := some 0 } }

/-- Good readings of the car pressure of spot 1 and of the pressure of vessel 1. -/
def pressures (car vessel : Int) (s : State) : State :=
  (s.modAnalog (carChannel 0) fun x => { x with reading := some car, fault := false }).modAnalog (vesselChannel 0) fun x =>
    { x with reading := some vessel, fault := false }

/-- The record of spot 1 changed. -/
def withRecord (f : Record → Record) (s : State) : State := s.modSpot 0 fun p => { p with record := p.record.map f }

/-- The open record of spot 1 stands in retained storage. -/
def keeping (s : State) : State := s.modSpot 0 fun p => { p with retained := p.record.map fun r => ⟨r, .a, .both⟩ }

/-- A ticket of spot 1. -/
def rigTicket (n : Nat) : Ticket :=
  ⟨n, 0, [0x41], 0, 0, .preset 1000, none, 5, 0, 0, 0, 0, 0, some .stopped, none,
    ⟨false, false, false, false, false, false, false, false, false⟩, none, none, 0⟩

/-- The transfer with two tickets waiting, a bypass, and a failed authentication. -/
def busyRig : State :=
  { transferring with
    tickets := [rigTicket 999999, rigTicket 1]
    ticketCounter := 2
    bypasses := [⟨0, .earth, 60000, .supervisory⟩]
    failures := 2
    lock := .effective }

/-- Spot 1 in READY with counts in its window, vapour seen or not, and the temperature of section 2.8. -/
def metered (a b : Nat) (vapour : Bool) : State :=
  ((rigAt .ready .lineUp).modSpot 0 fun p =>
    { p with meter := { p.meter with countA := a, countB := b, vapourSeen := vapour } }).modAnalog 0 fun x =>
      { x with reading := some (-124) }

/-- A body of 241 bytes, one more than a frame holds. -/
def tooLong : List Byte := List.replicate 241 0

/-! ### What is not well formed is refused (one ill-formed command for each check) -/

theorem test_wellformed_refuses_long_bodies :
    ([Instr.readStatus, .readSpot, .readVessel, .readCompressor, .readInputs, .readTicket, .readSnapshot, .readConfig, .carOrder,
      .listClear, .start, .stop, .abort, .hold, .resume, .spotReset, .spotTripReset, .valveCommand, .seatTake, .seatYield,
      .compressorReset, .tankUllage, .releaseTicket, .clearLatches, .setMask, .siteTrip, .configure, .listLoad, .bypassSet,
      .bypassEnd, .compressorService, .siteTripReset, .setClock, .lockMetrology, .restart, .authenticate,
      .deauthenticate]).all (fun f => !(f .panel 7 tooLong).wellFormed && (f .panel 7 (tooLong.drop 1)).wellFormed) = true := by
  decide +kernel

theorem test_wellformed_refuses_long_uncatalogued : (Instr.uncataloguedRequest .panel 7 0x50 tooLong).wellFormed = false := by
  decide +kernel

theorem test_wellformed_refuses_catalogued_kind : (Instr.uncataloguedRequest .panel 7 0x12 []).wellFormed = false := by
  decide +kernel

theorem test_wellformed_refuses_long_frame :
    (Instr.frameRejected .panel (List.replicate 247 0)).wellFormed = false ∧
      (Instr.frameRejected .panel (List.replicate 246 0)).wellFormed = true := by decide +kernel

theorem test_wellformed_refuses_current :
    (Instr.analogConversion 0 24001).wellFormed = false ∧ (Instr.analogConversion 0 24000).wellFormed = true := by decide

/-! ### Frames (section 10.1, and the examples worked by hand from its layout) -/

/-- The check value of this CRC over the digits 1 to 9. -/
theorem test_crc : crc16 [0x31, 0x32, 0x33, 0x34, 0x35, 0x36, 0x37, 0x38, 0x39] = 0x29B1 := by decide +kernel

theorem test_frame_read_status :
    decodeRequest .panel 1 [0x00, 0x01, 0x01, 0x05, 0xD0, 0x64] = some (.readStatus .panel 5 []) := by decide +kernel

theorem test_frame_release_ticket :
    decodeRequest .supervisory 9 [0x04, 0x09, 0x1E, 0x22, 0x00, 0x00, 0x00, 0x07, 0xB3, 0x68] =
      some (.releaseTicket .supervisory 0x22 [0, 0, 0, 7]) := by decide +kernel

theorem test_frame_of_another_unit :
    judgeFrame 2 [0x00, 0x01, 0x01, 0x05, 0xD0, 0x64] = .badAddress := by decide +kernel

theorem test_frame_too_long : judgeFrame 1 [241, 1, 1] = .oversize := by decide +kernel

/-! ### The manual's worked values -/

/-- The table of R45. -/
theorem test_ctl_table :
    ctl 2900 (-124) = 1079460 ∧ ctl 2903 (-124) = 1079542 ∧ ctl 691 35 = 1007947 ∧ ctl 691 265 = 992053 ∧
      ctl 4000 (-500) = 1200000 := by decide +kernel

/-- The window of section 2.8. -/
theorem test_worked_window :
    let t := after (.windowClose 0) (metered 9000 9001 false)
    (t.recordOf 0).map (fun r => [r.grossLiquid, r.standardVolume, r.netMass, r.rawRemainder, r.standardRemainder,
        r.massRemainder, r.mismatch]) = some [18000, 19488, 9882, 0, 5708400000, 65427296400000, 0] ∧
      (t.recordOf 0).map (fun r => r.tempExtremes) = some (some (-124, -124)) ∧
      (t.spots.get 0).meter.lastLiquid = some ⟨-124, .live, 1079460⟩ := by decide +kernel

/-- R48: 2,750 g on a remainder of 400 g. R49: an advance of 3 from 999,999,998. -/
theorem test_totaliser : totaliserAfter 999999998 3 = 1 ∧ (400 + 2750) / 1000 = 3 ∧ (400 + 2750) % 1000 = 150 := by
  decide +kernel

/-- R138: 4,080 µA on the delivered scale of AI01, -500 to 600, is -494.5: -495, the tie going away from zero. -/
theorem test_conversion_tie :
    [4079, 4080, 4081].map (fun n => ((after (.analogConversion 0 n) rig).analog.get 0).reading) =
      [some (-495), some (-495), some (-494)] := by decide +kernel

/-- R140: DO01 is S1.LA, DO05 S1.LH, DO06 S2.LA, DO40 S8.LH, DO41 C1.RUN, DO46 C3.DIR, DO47 site clear, DO48 bypass active. -/
theorem test_output_assignment :
    [0, 4, 5, 39, 40, 45, 46, 47].map outputAt =
      [.valve 0 .la, .valve 0 .lh, .valve 1 .la, .valve 7 .lh, .run 0, .direction 2, .siteClear, .bypassActive] := by decide +kernel

/-- R165: the number after 999,999 is 1. -/
theorem test_ticket_numbers : numberBefore 1 1 = 999999 ∧ numberBefore 2 1 = 1 ∧ numberBefore 2 2 = 999999 := by decide

/-! ### One step of each kind -/

theorem test_stop_closes_lh_and_settles :
    let t := after (.stop .panel 7 (itemBody (0 : SpotId))) transferring
    t.stateOf 0 = .settling ∧ (t.valve 0 .lh).command = .toClose ∧ (t.comps.get 0).state = .stopping false ∧
      (t.vessels.get 0).committed = 0 := by decide +kernel

theorem test_abort_closes_every_valve :
    let t := after (.abort .panel 7 (itemBody (0 : SpotId))) transferring
    t.stateOf 0 = .settling ∧ allValves.all (fun v => decide ((t.valve 0 v).command = .toClose)) = true := by decide +kernel

theorem test_hold_then_state :
    (after (.hold .panel 7 (itemBody (0 : SpotId))) transferring).stateOf 0 = .held := by decide +kernel

theorem test_start_in_wrong_state :
    (after (.start .supervisory 7 (itemBody (0 : SpotId))) rig).replyCode .supervisory = some .refusedState := by decide +kernel

theorem test_order_opens_record :
    let t := after (.carOrder .supervisory 7 ([1, 2, 0x41, 0x31] ++ List.replicate 10 0 ++ [1, 1, 1, 1, 0, 0, 3, 0xE8, 0, 0, 0, 0, 0])) rig
    t.replyCode .supervisory = some .done ∧ t.stateOf 0 = .ordered ∧
      (t.recordOf 0).map (fun r => (r.order.carId, r.order.mode)) = some ([0x41, 0x31], .preset 1000) := by decide +kernel

theorem test_site_trip_trips_the_transfer :
    let t := after (.siteTrip .panel 7 []) transferring
    t.stateOf 0 = .tripped ∧ t.siteTrip.active = true ∧ (t.comps.get 0).state = .stopping false := by decide +kernel

theorem test_wrong_code_counts :
    let t := after (.authenticate .panel 7 [0, 0, 0, 9]) { rig with failures := 2 }
    t.replyCode .panel = some .refusedAuth ∧ t.failures = 3 ∧ t.lockout = true := by decide +kernel

theorem test_release_of_the_head :
    let t := after (.releaseTicket .supervisory 7 (be 4 999999)) busyRig
    t.replyCode .supervisory = some .done ∧ t.tickets.map (fun x => x.number) = [1] := by decide +kernel

theorem test_release_of_another_number :
    (after (.releaseTicket .supervisory 7 (be 4 1)) busyRig).replyCode .supervisory = some .refusedMismatch := by decide +kernel

theorem test_status_length : transferring.statusBytes.length = 59 ∧ (rigTicket 3).bytes.length = 68 := by decide +kernel

theorem test_idle_counts_the_age_up :
    (match step transferring with
      | .next t => (t.vessels.get 0).age
      | _ => none) = some 1 := by decide +kernel

theorem test_supply_loss_darkens :
    let t := after .supplyLoss transferring
    t.powered = false ∧ t.valveOutput 0 .lh = false ∧ t.runOutput 0 = false := by decide +kernel

theorem test_power_up_restores_closing :
    let t := after .powerUp (after .supplyLoss (transferring.modSpot 0 fun p =>
      { p with retained := p.record.map fun r => ⟨{ r with enteredTransfer := true }, .a, .both⟩ }))
    t.stateOf 0 = .closing ∧ (t.recordOf 0).map (fun r => r.endCause) = some (some .restart) := by decide +kernel

theorem test_analog_middle :
    let t := after (.analogConversion 8 12000) rig
    (t.analog.get 8).fault = false ∧
      (t.analog.get 8).reading = some (((rig.scaling.get 8).low + (rig.scaling.get 8).high) / 2) := by decide +kernel

theorem test_stroke_timeout_trips :
    let s := (rigAt .transfer .liquid).modSpot 0 fun p =>
      { p with valves := p.valves.modify 0 fun u => { u with stroke := some ⟨.toClose, 0, .deEnergise⟩ } }
    (after (.strokeTimeout 0 .la) s).stateOf 0 = .tripped := by decide +kernel

theorem test_dwell_raises_the_step :
    ((after (.dwellExpiry 0) transferring).spots.get 0).driver.step = (transferring.spots.get 0).driver.step + 1 := by
  decide +kernel

theorem test_run_up_expiry_faults :
    let s := (holding .pressurising).modComp 0 fun c => { c with state := .starting, timer := some 0 }
    ((after (.runUpExpiry 0) s).comps.get 0).state = .fault ∧ (after (.runUpExpiry 0) s).stateOf 0 = .awaitCompressor := by
  decide +kernel

/-- R69: the overrun is latched once per record: the mark stands in the retained copy too. -/
theorem test_overrun_is_latched_in_the_retained_copy :
    let t := after (.windowClose 0) (withRecord (fun r => { r with netMass := 1060000, overrun := 60000 }) (metered 0 0 false))
    t.spotLatched 0 .overrun = true ∧ (t.recordOf 0).map (fun r => r.overrunLatched) = some true ∧
      (t.spots.get 0).retained.map (fun k => k.record.overrunLatched) = some true := by decide +kernel

/-- R79 (log 19): a compressor that already stands at PULL needs no changeover. -/
theorem test_recovery_at_pull_runs_at_once :
    let s := ((holding .settling).modSpot 0 fun p => { p with driver := { p.driver with settle := some 0 } }).modComp 0 fun c =>
      { c with position := .pull }
    let t := after (.settleTimerExpiry 0)
      (withRecord (fun r => { r with order := { r.order with recoveryTarget := some 300 }, endCause := some .liquidOut }) s)
    t.stateOf 0 = .recovery ∧ (t.comps.get 0).state = .runPull := by decide +kernel

/-! ### The hypotheses of each statement can be met -/

/-- A command gives a next state. -/
def runs (c : Instr) (s : State) : Bool :=
  match exec c s with
  | .next _ => true
  | .fault _ => false
  | .refused _ => false

/-- The body that names spot 1. -/
def one : List Byte := itemBody (0 : SpotId)

/-- The transfer after a site trip: spot 1 is in TRIPPED with a snapshot. -/
def trippedRig : State := after (.siteTrip .panel 7 []) { transferring with pending := [] }

/-- The trip of spot 1 by its own valve, with its reply time over: no site trip is active. -/
def spotTripped : State :=
  (rigAt .tripped .liquid).modSpot 0 fun p => { p with record := p.record.map fun r => { r with endCause := some .tripped } }

/-- A body of CAR ORDER for spot 1 with a block of a given size. -/
def orderBody (block : Nat) : List Byte :=
  [1, 2, 0x41, 0x31] ++ List.replicate 10 0 ++ [1, 1, 1, 3, 0, 0, 3, 0xE8] ++ be 2 block ++ [0, 0, 0]

/-- The rig with one function on line 1, active. -/
def reads (f : FieldFn) (s : State) : State :=
  { s with lineCfg := s.lineCfg.modify 0 fun c => { c with function := some f, activeLevel := .low } }

theorem test_meets_IdleStep :
    transferring.pending = [] ∧ transferring.powered = true ∧ ({ rig with powered := false } : State).powered = false ∧
      (transferring.spots.get 0).meter.hold = .live ∧
      ((rig.modSpot 0 fun p => { p with meter := { p.meter with hold := .held 0 } }).spots.get 0).meter.hold = .held 0 := by
  decide +kernel

theorem test_meets_RequestsSurvive :
    (Instr.uncataloguedRequest .panel 7 0x50 (tooLong.drop 1)).wellFormed = true ∧
      (Instr.uncataloguedRequest .panel 7 0x50 (tooLong.drop 1)).request = some (.panel, 0x50, 7, tooLong.drop 1) := by
  decide +kernel

theorem test_meets_OneDamagedByte :
    (tooLong.drop 1).length ≤ 240 ∧ (frameBytes 1 1 5 (tooLong.drop 1))[0]? = some 240 ∧
      (frameBytes 1 1 5 (tooLong.drop 1))[245]? ≠ none ∧ (frameBytes 1 1 5 (tooLong.drop 1))[246]? = none := by decide +kernel

/-- Section 10.1: of a frame with two body bytes, which are the check of the frame without them, a length byte damaged to 0
leaves a frame that passes (R175). -/
theorem test_shortened_frame_passes :
    let check := crc16 [0, 1, 0x01, 5]
    let bytes := (frameBytes 1 0x01 5 [Word.high check, Word.low check]).set 0 0
    judgeFrame 1 (bytes.take 6) = .valid 0x01 5 [] ∧ judgeFrame 1 (bytes.take 5) = .incomplete ∧
      judgeFrame 1 bytes = .incomplete := by decide +kernel

theorem test_meets_RecordsSurvive :
    SpotCfg.delivered.inRange = true ∧ (⟨true, 4000, 6500, -500⟩ : ProductCfg).inRange = true ∧
      (⟨false, 0, 4000, 600⟩ : ProductCfg).inRange = true ∧ (⟨true, 3600⟩ : VesselCfg).inRange = true ∧
      (⟨60, 120, 60⟩ : CompCfg).inRange = true ∧ (1600 : Nat) ∈ filterTimes ∧ (⟨247, .baud115200⟩ : LinkCfg).inRange = true ∧
      (⟨-1000, 1000⟩ : ScaleCfg).inRange 7 = true ∧ (⟨-100, 5000⟩ : ScaleCfg).inRange 8 = true ∧
      listInRange (List.replicate 16 ⟨.dr, .toOpen, true⟩) = true := by decide +kernel

theorem test_meets_VesselsStayBalanced : busyRig.vesselsBalanced ∧ goesOn busyRig = true := by
  unfold State.vesselsBalanced Vessel.balanced
  decide +kernel

theorem test_meets_TicketsStayInOrder : busyRig.ticketsInOrder ∧ goesOn busyRig = true := by
  unfold State.ticketsInOrder
  decide +kernel

theorem test_meets_LockoutAndShortTables :
    goesOn busyRig = true ∧ busyRig.lockoutArmed ∧ busyRig.bypassesFew ∧ busyRig.pendingOnce := by
  unfold State.lockoutArmed State.bypassesFew State.pendingOnce
  decide +kernel

theorem test_meets_RackStaysDark : busyRig.darkWhenTripped ∧ trippedRig.darkWhenTripped ∧ goesOn busyRig = true := by
  unfold State.darkWhenTripped State.allCommandedClose
  decide +kernel

theorem test_meets_LhStaysGuarded : busyRig.lhGuarded ∧ goesOn busyRig = true := by
  unfold State.lhGuarded
  decide +kernel

theorem test_meets_LaddersStayBounded : busyRig.laddersBounded ∧ goesOn busyRig = true := by
  unfold State.laddersBounded
  decide +kernel

theorem test_meets_TimersStayInPlace : busyRig.timersInPlace ∧ goesOn busyRig = true := by
  unfold State.timersInPlace Spot.timersInPlace
  decide +kernel

theorem test_meets_ListsAndRecords : busyRig.timersInPlace ∧ busyRig.enginesInPlace ∧ goesOn busyRig = true := by
  unfold State.timersInPlace Spot.timersInPlace State.enginesInPlace
  decide +kernel

/-- The transfer with every carried remainder one below its divisor, in the open and the retained record. -/
def fullRemainders : State :=
  keeping (withRecord (fun r =>
    { r with rawRemainder := 499999, standardRemainder := 10 ^ 10 - 1, massRemainder := 10 ^ 14 - 1, netMass := 4294967295 }) busyRig)

theorem test_meets_QuantitiesStayBounded :
    fullRemainders.settingsInRange ∧ fullRemainders.enginesInPlace ∧ fullRemainders.quantitiesBounded ∧
      goesOn fullRemainders = true := by
  unfold State.settingsInRange State.enginesInPlace State.quantitiesBounded
  decide +kernel

theorem test_meets_StoredSettings : goesOn busyRig = true ∧ busyRig.settingsInRange ∧ busyRig.lock = .effective ∧
    (busyRig.products.get 0).configured = true := by
  unfold State.settingsInRange
  decide +kernel

theorem test_meets_RefusedRequests :
    (Instr.start .supervisory 7 one).request = some (.supervisory, 0x12, 7, one) ∧ rig.takes .supervisory = true ∧
      runs (.start .supervisory 7 one) rig = true ∧
      (after (.start .supervisory 7 one) rig).replyCode .supervisory = some .refusedState ∧
      ResultCode.refusedState.refuses = true ∧ (0x12 : Byte) ≠ 0x40 ∧ ¬((0x12 : Byte) = 0x19) := by decide +kernel

theorem test_meets_WhatIsNotTaken :
    runs (.rawLevelChange 159 .high) { rig with powered := false } = true ∧
      runs .clockTick { rig with powered := false } = true ∧ Instr.clockTick ≠ .powerUp ∧ Instr.clockTick ≠ .supplyLoss ∧
      (Instr.stop .panel 7 one).wellFormed = true ∧ rig.powered = true ∧
      ((rig.modLink .panel fun u => { u with rx := .frame 1 true [] }).link .panel).overruns = true ∧
      ((after (.stop .panel 7 one) rig).link .panel).overruns = true := by decide +kernel

/-- R131, log 16: without supply a level change moves its own line and no other. -/
theorem test_level_change_without_supply :
    let t := after (.rawLevelChange 5 .high) { rig with powered := false, lines := rig.lines.set 5 ⟨.low, .low, some (0, 9)⟩ }
    t.lines.get 5 = ⟨.high, .high, none⟩ ∧ t.lines.get 4 = rig.lines.get 4 ∧
      (Instr.clockTick ≠ .rawLevelChange 5 .high) := by decide +kernel

theorem test_meets_SettingsChangeOnly :
    runs (.replySent .panel) (after (.stop .panel 7 one) rig) = true ∧
      (∀ l tag body, Instr.replySent .panel ≠ .configure l tag body) ∧
      (∀ l tag body, Instr.replySent .panel ≠ .listLoad l tag body) ∧
      (∀ l tag body, Instr.replySent .panel ≠ .compressorService l tag body) ∧
      (∀ l tag body, Instr.replySent .panel ≠ .setMask l tag body) ∧
      ∀ l tag body, Instr.replySent .panel ≠ .lockMetrology l tag body := by
  refine ⟨by decide +kernel, ?_, ?_, ?_, ?_, ?_⟩ <;> intros <;> simp

/-- Spot 1 in CLOSING with its close-down complete, some tickets queued and some of the pending order. -/
def closedRig (queued : Nat) (order : List PendingEntry) (entered : Bool) : State :=
  { withRecord (fun r => { r with enteredTransfer := entered }) (rigAt .closing .liquid) with
    tickets := List.replicate queued (rigTicket 5)
    pendingOrder := order }

theorem test_meets_TicketsJoinTheTail :
    runs (.releaseTicket .supervisory 7 (be 4 999999)) busyRig = true ∧ busyRig.takes .supervisory = true ∧
      busyRig.tickets ≠ [] ∧ (closedRig 31 [] true).stateOf 0 = .closing ∧ (closedRig 31 [] true).inPending 0 = false ∧
      (closedRig 31 [] true).tickets.length = 31 ∧ (closedRig 32 [] true).tickets.length = 32 ∧
      (closedRig 0 [⟨1, true⟩] true).pendingOrder ≠ [] ∧ (closedRig 0 [⟨1, true⟩] true).inPending 0 = false ∧
      (closedRig 0 [⟨0, true⟩] true).inPending 0 = true ∧
      (closedRig 31 [] false).recordOf 0 = some { Record.opened rigOrder with phase := .liquid } ∧
      ((closedRig 31 [] true).recordOf 0).map (fun r => r.enteredTransfer) = some true ∧
      ((closedRig 31 [] true).stateOf 0).trippable = true := by decide +kernel

theorem test_meets_Departure :
    (rigAt .complete .liquid).stateOf 0 = .complete ∧
      permissives.all (fun f => !(rigAt .complete .liquid).reading (.spot 0 f)) = true ∧ rig.stateOf 0 ≠ .complete ∧
      (reads (.spot 0 .chock) rig).reading (.spot 0 .chock) = true := by decide +kernel

/-- The transfer with a snapshot of an earlier trip and 255 later ones. -/
def snapshotRig (n : Nat) : State :=
  transferring.modSpot 0 fun p =>
    { p with snapshot := (trippedRig.spots.get 0).snapshot.map fun x => { x with laterTrips := n } }

theorem test_meets_SnapshotsAreKept :
    [254, 255].map (fun n => ((snapshotRig n).spots.get 0).snapshot.map fun x => x.laterTrips) = [some 254, some 255] ∧
      [254, 255].map (fun n => ((after (.siteTrip .panel 7 []) (snapshotRig n)).spots.get 0).snapshot.map fun x => x.laterTrips) =
        [some 255, some 255] ∧
      (snapshotRig 255).timersInPlace ∧ (snapshotRig 255).enginesInPlace ∧ (snapshotRig 255).stateOf 0 ≠ .tripped ∧
      (after (.siteTrip .panel 7 []) (snapshotRig 255)).stateOf 0 = .tripped ∧
      runs (.siteTrip .panel 7 []) (snapshotRig 255) = true ∧ mayRestart (.siteTrip .panel 7 []) = false := by
  unfold State.timersInPlace Spot.timersInPlace State.enginesInPlace
  decide +kernel

theorem test_meets_TrippedSpots :
    trippedRig.timersInPlace ∧ trippedRig.enginesInPlace ∧ trippedRig.stateOf 0 = .tripped ∧
      runs .clockTick trippedRig = true ∧ mayRestart .clockTick = false := by
  unfold State.timersInPlace Spot.timersInPlace State.enginesInPlace
  decide +kernel

/-- The states of the clause of R182: latches and marks are set, and neither a tick of the clock nor the end of a reply that
no restart waits for clears one. -/
theorem test_meets_LatchesAreKept :
    trippedRig.spotLatched 0 .trip = true ∧ runs .clockTick trippedRig = true ∧
      (after (.replySent .panel) trippedRig).latches = trippedRig.latches ∧
      ((trippedRig.link .panel).exchange matches .busy _ .nothing) ∧
      runs (.replySent .panel) trippedRig = true := by
  decide +kernel

theorem test_meets_Reads :
    busyRig.takes .supervisory = true ∧ targetOf 9 20 = some (.scaling 19) ∧ targetOf 9 21 = none ∧ targetOf 6 160 ≠ none ∧
      targetOf 7 16 = some (.closeDown 7) ∧ busyRig.tickets = [rigTicket 999999, rigTicket 1] ∧ rig.tickets = [] ∧
      rig.takes .panel = true ∧ (rig.spots.get 0).snapshot = none ∧
      ({ trippedRig with links := rig.links }).takes .panel = true ∧
      (({ trippedRig with links := rig.links } : State).spots.get 0).snapshot ≠ none := by decide +kernel

theorem test_meets_SeatRequests :
    transferring.takes .supervisory = true ∧ transferring.stateOf 0 ∉ [SpotState.vacant, .ordered, .ready, .held, .complete] ∧
      rig.takes .panel = true ∧ rig.stateOf 0 ∈ [SpotState.vacant, .ordered, .ready, .held, .complete] ∧
      (rig.spots.get 0).seat = .supervisory ∧ (rig.spots.get 0).seat ≠ .panel := by decide +kernel

theorem test_meets_ListClear :
    (rigAt .ordered .lineUp).takes .supervisory = true ∧ ((rigAt .ordered .lineUp).spots.get 0).seat = .supervisory ∧
      (rigAt .ordered .lineUp).stateOf 0 = .ordered ∧ rig.stateOf 0 ≠ .ordered ∧ rig.takes .panel = true ∧
      (rig.spots.get 0).seat ≠ .panel ∧ runs (.listClear .supervisory 7 one) rig = true := by decide +kernel

theorem test_meets_CarOrder :
    rig.takes .supervisory = true ∧ orderShape (orderBody 20000) = true ∧ oneBased 8 (field (orderBody 20000) 0 1) = some (0 : SpotId) ∧
      (rig.spots.get 0).seat = .supervisory ∧ rig.stateOf 0 = .vacant ∧ (rig.spotCfg.get 0).inService = true ∧
      rig.siteTrip.active = false ∧ (rig.parseOrder 0 (orderBody 20000)).map Prod.snd = some false ∧
      (rig.parseOrder 0 (orderBody 20001)).map Prod.snd = some true ∧ transferring.takesOrder 0 = false ∧
      rig.takesOrder 0 = true ∧ rig.parseOrder 0 ((orderBody 500).set 1 0) = none ∧
      orderShape ((orderBody 500).set 1 0) = true := by decide +kernel

/-- Every field of an order at an end of its range: a car identity of 12 characters, preset and block one above, target 800,
and a list of one step; then a target of 801. -/
def fullOrder (target : Nat) : List Byte :=
  [1, 12] ++ List.replicate 12 0x7E ++ [1, 4, 1, 15] ++ be 4 120001 ++ be 2 20001 ++ be 2 target ++ [1, 0x01]

theorem test_meets_CarOrderFields :
    (rig.parseOrder 0 (fullOrder 800)).map (fun o => (o.1.mode, o.1.block, o.1.recoveryTarget, o.2)) =
        some (.preset 120000, 20000, some 800, true) ∧
      rig.parseOrder 0 (fullOrder 801) = none ∧ rig.parseOrder 0 ((fullOrder 800).set 16 2) = none ∧
      (rig.parseOrder 0 ((orderBody 499).set 17 1)).map (fun o => o.1.block) = some 5000 ∧
      (rig.parseOrder 0 (orderBody 499)).map (fun o => (o.1.block, o.2)) = some (500, true) := by decide +kernel

theorem test_meets_Start :
    (rigAt .ready .lineUp).takes .supervisory = true ∧ ((rigAt .ready .lineUp).spots.get 0).seat = .supervisory ∧
      (rigAt .ready .lineUp).stateOf 0 = .ready ∧ (rigAt .ready .lineUp).noneIdle ∧ rig.stateOf 0 ≠ .ready := by
  unfold State.noneIdle
  decide +kernel

/-- A state with compressor 2 IDLE at a position. -/
def idling (d : Direction) (s : State) : State := s.modComp 1 fun c => { c with state := .idle, position := d }

/-- R12: with a compressor IDLE the spot that starts is in PRESSURISING before the reply is sent. -/
theorem test_meets_StartWithIdle :
    let s := idling .push (rigAt .ready .lineUp)
    s.takes .supervisory = true ∧ (s.spots.get 0).seat = .supervisory ∧ s.stateOf 0 = .ready ∧ ¬s.noneIdle ∧
      (after (.start .supervisory 7 one) s).stateOf 0 = .pressurising := by
  unfold State.noneIdle
  decide +kernel

theorem test_meets_StopAndAbort :
    transferring.takes .panel = true ∧ transferring.noOtherWaits 0 ∧ transferring.pressureSafe 0 = true ∧
      transferring.stateOf 0 = .transfer ∧ (transferring.spotCfg.get 0).inService = true ∧
      (rigAt .held .liquid).stateOf 0 = .held ∧ (rigAt .held .liquid).inPhase 0 .recovery = false ∧
      (rigAt .held .liquid).noOtherWaits 0 ∧ (rigAt .held .liquid).pressureSafe 0 = true ∧
      (rigAt .settling .liquid).stateOf 0 = .settling ∧ (rigAt .settling .liquid).queue = [] ∧
      (rigAt .settling .liquid).noOtherWaits 0 ∧ (rigAt .settling .liquid).takes .panel = true := by
  unfold State.noOtherWaits
  decide +kernel

theorem test_meets_RequestsOutside :
    (rigAt .ordered .lineUp).takes .supervisory = true ∧ (rigAt .ordered .lineUp).stateOf 0 = .ordered ∧
      ((rigAt .ordered .lineUp).spots.get 0).seat = .supervisory ∧ (rigAt .complete .liquid).takes .supervisory = true ∧
      (rigAt .complete .liquid).stateOf 0 = .complete ∧ ((rigAt .complete .liquid).spots.get 0).seat = .supervisory ∧
      rig.stateOf 0 ∉ [SpotState.ordered, .complete] ∧ (rigAt .settling .liquid).stateOf 0 ∈ [SpotState.closing, .settling] ∧
      rig.stateOf 0 ∈ [SpotState.vacant, .complete, .tripped] ∧ (rigAt .closing .liquid).stateOf 0 = .closing ∧
      ((rigAt .closing .liquid).spots.get 0).engine = .idle ∧
      ((rigAt .closing .liquid).modSpot 0 fun p => { p with engine := .closedCheck }).allClosed 0 = false := by decide +kernel

/-- Spot 1 in CLOSING with the CLOSED CHECK running and all five valves showing CLOSED. -/
def shutRig (queued : Nat) (order : List PendingEntry) (entered : Bool) : State :=
  { (closedRig queued order entered).modSpot 0 fun p => { p with engine := .closedCheck } with
    lineCfg := Bank.ofFn fun i => { LineCfg.delivered with
      function := if i.val < 5 then some (.spot 0 (.closedProven (valveAt (Fin.ofNat 5 i.val)))) else none
      activeLevel := .low }
    clock := some 7 }

theorem test_meets_AbortWithAllClosed :
    let check (s : State) := s.takes .panel && decide (s.stateOf 0 = .closing ∧ (s.spots.get 0).engine ≠ .idle) &&
      s.allClosed 0 && (s.recordOf 0).isSome
    [shutRig 0 [] false, shutRig 31 [] true, shutRig 32 [] true, shutRig 0 [⟨1, false⟩] true, shutRig 31 [⟨0, false⟩] true,
      shutRig 32 [⟨0, false⟩] true, shutRig 0 [⟨1, false⟩, ⟨0, false⟩] true].all check = true ∧
      ((shutRig 0 [] false).recordOf 0).map (fun r => (r.enteredTransfer, r.netMass)) = some (false, 0) ∧
      (shutRig 31 [] true).inPending 0 = false ∧ (shutRig 0 [⟨1, false⟩] true).inPending 0 = false ∧
      (shutRig 0 [⟨1, false⟩, ⟨0, false⟩] true).inPending 0 = true := by decide +kernel

/-- R22, R164: a restored record whose CLOSED CHECK completes takes its end timestamp, in its retained copy too. -/
theorem test_restored_record_takes_its_end_timestamp :
    let t := after (.abort .panel 7 one) (shutRig 32 [⟨0, false⟩] true)
    (t.recordOf 0).map (fun r => r.endTimestamp) = some (some 7) ∧ t.readyPending 0 = true ∧
      (t.spots.get 0).retained.map (fun k => k.record.endTimestamp) = some (some 7) := by decide +kernel

theorem test_meets_EntriesToHeld :
    rig.takes .panel = true ∧
      rig.stateOf 0 ∉ [SpotState.pressurising, .transfer, .paused .ullage, .paused .compressor, .recovery] ∧
    transferring.powered = true ∧ transferring.noOtherWaits 0 ∧ transferring.pressureSafe 0 = true ∧
      transferring.takes .panel = true ∧
      transferring.stateOf 0 ∈ [SpotState.pressurising, .transfer, .paused .ullage, .paused .compressor, .recovery] ∧
      (transferring.spots.get 0).driver.stall = some 0 ∧
      (((holding .pressurising).modSpot 0 fun p => { p with driver := { p.driver with pressurise := some 0 } }).spots.get
        0).driver.pressurise = some 0 ∧
      (holding .pressurising).noOtherWaits 0 := by
  unfold State.noOtherWaits
  decide +kernel

/-- Spot 1 in HELD with its line-up stopped at the first step. -/
def stoppedLineUp : State :=
  (rigAt .held .lineUp).modSpot 0 fun p => { p with engine := .stopped ⟨.lineUpConfigured, [⟨.va, .toOpen, true⟩], 1, true⟩ 0 }

theorem test_meets_Resume :
    (rigAt .held .liquid).takes .supervisory = true ∧ ((rigAt .held .liquid).spots.get 0).seat = .supervisory ∧
      (rigAt .held .liquid).stateOf 0 = .held ∧ (rigAt .held .liquid).holdPersists 0 = false ∧
      (rigAt .held .liquid).noneIdle ∧ (rigAt .held .liquid).inPhase 0 .liquid = true ∧
      (rigAt .held .recovery).noneIdle ∧ (rigAt .held .recovery).inPhase 0 .recovery = true ∧
      (rigAt .held .recovery).holdPersists 0 = false ∧
      stoppedLineUp.takes .supervisory = true ∧ stoppedLineUp.holdPersists 0 = false ∧
      stoppedLineUp.inPhase 0 .lineUp = true ∧ stoppedLineUp.firstStepWaits 0 [⟨.va, .toOpen, true⟩] = true ∧
      rig.stateOf 0 ≠ .held := by
  unfold State.noneIdle
  decide +kernel

theorem test_meets_ResumeWithIdle :
    let s (ph : Phase) := idling .push (rigAt .held ph)
    [Phase.liquid, .recovery].all (fun ph => (s ph).takes .supervisory && !(s ph).holdPersists 0 && (s ph).inPhase 0 ph &&
        decide ((s ph).stateOf 0 = .held ∧ ((s ph).spots.get 0).seat = .supervisory)) = true ∧
      (after (.resume .supervisory 7 one) (s .liquid)).stateOf 0 = .pressurising ∧
      (after (.resume .supervisory 7 one) (s .recovery)).stateOf 0 = .awaitCompressor ∧
      ((after (.resume .supervisory 7 one) (s .recovery)).comps.get 1).state = .changeoverFromIdle := by decide +kernel

theorem test_meets_ListsStart :
    let s := (rigAt .ordered .lineUp).modSpot 0 fun p => { p with proving := some 0 }
    s.powered = true ∧ (s.spots.get 0).proving = some 0 ∧ s.reading (.spot 0 .spotEsd) = false ∧
      s.destinationHigh 0 = false ∧ s.firstStepWaits 0 (s.lineUpOf 0).2 = true := by decide +kernel

theorem test_meets_SpotTripReset :
    spotTripped.takes .supervisory = true ∧ (spotTripped.spots.get 0).seat = .supervisory ∧ spotTripped.stateOf 0 = .tripped ∧
      spotTripped.siteTrip.active = false ∧ spotTripped.reading (.spot 0 .spotEsd) = false ∧
      spotTripped.destinationHigh 0 = false ∧ spotTripped.noOtherWaits 0 ∧
      spotTripped.firstStepWaits 0 (spotTripped.closeDown.get 0) = true ∧
      (reads (.spot 0 .spotEsd) spotTripped).reading (.spot 0 .spotEsd) = true ∧
      (reads (.highLevel 0) spotTripped).destinationHigh 0 = true := by
  unfold State.noOtherWaits
  decide +kernel

/-- Spot 1 in CLOSING with its CLOSED CHECK in progress. -/
def closingRig : State := (rigAt .closing .liquid).modSpot 0 fun p => { p with engine := .closedCheck }

theorem test_meets_ValveCommand :
    rig.takes .supervisory = true ∧ (rig.spots.get 0).seat = .supervisory ∧ (rig.spots.get 0).engine.inProgress = false ∧
      rig.stateOf 0 ∈ [SpotState.vacant, .ordered, .ready, .complete] ∧ (rig.spotCfg.get 0).inService = true ∧
      rig.siteTrip.active = false ∧ (rig.valve 0 .va).command ≠ .toOpen ∧
      closingRig.takes .supervisory = true ∧ (closingRig.spots.get 0).engine.inProgress = true ∧ (transferring.spots.get 0).engine.inProgress = false ∧
      transferring.stateOf 0 ∉ [SpotState.vacant, .ordered, .ready, .complete] := by decide +kernel

/-- Compressor 1 in FAULT. -/
def faultedRig : State := rig.modComp 0 fun c => { c with state := .fault }

theorem test_meets_CompressorReset :
    faultedRig.takes .panel = true ∧ oneBased 3 0 = none ∧ oneBased 3 4 = none ∧ oneBased 3 1 = some 0 ∧
      (faultedRig.comps.get 0).state = .fault ∧ faultedRig.reading (.comp 0 .fault) = false ∧ faultedRig.queue = [] ∧
      (rig.comps.get 0).state ≠ .fault ∧ (reads (.comp 0 .fault) faultedRig).reading (.comp 0 .fault) = true := by
  decide +kernel

theorem test_meets_CompressorService :
    let a (s : State) : State := s.modLink .panel fun u => { u with authenticated := true }
    rig.takes .panel = true ∧ (rig.link .panel).authenticated = false ∧ (a faultedRig).takes .panel = true ∧
      ((a faultedRig).link .panel).authenticated = true ∧ ((a faultedRig).comps.get 0).state = .fault ∧
      ((a transferring).comps.get 0).state ∉ [CompState.idle, .fault, .outOfService] ∧
      ((a rig).comps.get 2).state = .outOfService ∧ (a rig).reading (.comp 2 .fault) = false ∧ (a rig).queue = [] ∧
      (a (reads (.comp 2 .fault) rig)).reading (.comp 2 .fault) = true ∧ ((a faultedRig).comps.get 0).state ≠ .outOfService ∧
      (a trippedRig).siteTrip.active = true ∧ ((a trippedRig).comps.get 2).state = .outOfService := by decide +kernel

theorem test_meets_Ullage :
    let old := rig.modVessel 0 fun v => { v with age := some (seconds v.ageLimit) }
    rig.takes .panel = true ∧ rig.takes .supervisory = true ∧ (rig.vesselCfg.get 0).inService = true ∧
      (rig.vessels.get 0).requests = [] ∧ old.powered = true ∧
      (old.vessels.get 0).age = some (seconds (old.vessels.get 0).ageLimit) ∧ (old.vessels.get 0).stale = false ∧
      ((rig.vesselCfg.set 3 ⟨false, 300⟩).get 3).inService = false := by decide +kernel

theorem test_meets_ReleaseTicket :
    busyRig.takes .panel = true ∧ busyRig.takes .supervisory = true ∧ rig.tickets = [] ∧
      busyRig.tickets = [rigTicket 999999, rigTicket 1] ∧ (rigTicket 999999).number = 999999 ∧
      (rigTicket 999999).number ≠ 1 ∧ busyRig.pendingOrder = [] := by decide +kernel

theorem test_meets_ClearAndMask :
    rig.takes .panel = true ∧ (0x07FF : Word) &&& 0xF800 = 0 ∧ (0x1FFF : Word) &&& 0xE000 = 0 ∧
      (0x07FF : Word).getLsbD 6 = true ∧ ¬((0x0800 : Word) &&& 0xF800 = 0) := by decide +kernel

theorem test_meets_SiteTrip :
    transferring.takes .panel = true ∧ transferring.siteTrip.active = false ∧
      (∀ v, (transferring.vessels.get v).requests = []) ∧ transferring.pendingOrder = [] ∧ trippedRig.siteTrip.active = true ∧
      trippedRig.takes .supervisory = true ∧ (trippedRig.link .supervisory).authenticated = false ∧
      (∀ i, trippedRig.reading (.esd i) = false) ∧ trippedRig.gasCount < trippedRig.unit.gasVote ∧ trippedRig.queue = [] ∧
      (reads (.esd 3) trippedRig).reading (.esd 3) = true ∧
      ((trippedRig.modLink .supervisory fun u => { u with authenticated := true }).link .supervisory).authenticated = true := by
  decide +kernel

/-- Spot 1 in TRANSFER with VA closing, or with VA away from its CLOSE command. -/
def closingVa : State :=
  transferring.modSpot 0 fun p =>
    { p with valves := p.valves.modify 1 fun u => { u with stroke := some ⟨.toClose, 0, .deEnergise⟩, disagreement := some 0 } }

theorem test_meets_FailedClose :
    closingVa.powered = true ∧ (closingVa.stateOf 0).trippable = true ∧ closingVa.noOtherWaits 0 ∧
      closingVa.pendingOrder = [] ∧ (closingVa.valve 0 .va).stroke = some ⟨.toClose, 0, .deEnergise⟩ ∧
      (closingVa.valve 0 .va).disagreement = some 0 ∧ (closingVa.valve 0 .va).command = .toClose ∧
      (closingVa.spots.get 0).snapshot = none := by
  unfold State.noOtherWaits
  decide +kernel

/-- The rig with the panel link authenticated. -/
def authRig : State := rig.modLink .panel fun u => { u with authenticated := true }

theorem test_meets_Configure :
    authRig.takes .panel = true ∧ (authRig.link .panel).authenticated = true ∧ authRig.lock ≠ .effective ∧
      authRig.productInUse 0 = false ∧ (rigAt .ready .lineUp).productInUse 0 = true ∧
      (⟨true, 4000, 6500, -500⟩ : ProductCfg).inRange = true ∧ (authRig.comps.get 0).state = .outOfService ∧
      (⟨5, 5, 5⟩ : CompCfg).inRange = true ∧ SpotCfg.delivered.inRange = true ∧ SpotCfg.delivered.inService = false ∧
      authRig.stateOf 0 = .vacant ∧ (rigAt .ready .lineUp).stateOf 0 ≠ .vacant ∧
      (⟨-100, 5000⟩ : ScaleCfg).inRange 19 = true ∧ (0 : Nat) ∈ filterTimes ∧
      (authRig.lineCfg.get 159).edgeOnly { authRig.lineCfg.get 159 with edge := .both } = true ∧
      (authRig.lineCfg.get 159).filterTime ∈ filterTimes ∧
      (⟨1, .baud9600⟩ : LinkCfg).inRange = true ∧ listInRange [⟨.la, .toOpen, false⟩] = true := by decide +kernel

/-- The authenticated rig with every function of spot 2 mapped on lines 1 to 16, gas detector 1 active on line 17, and DI160
to spare. -/
def mappedRig : State :=
  { authRig with
    lineCfg := Bank.ofFn fun i => { LineCfg.delivered with
      function := if i.val = 16 then some (.gas 0) else (functionsOfSpot 1)[i.val]?
      activeLevel := if i.val = 16 then .low else .high }
    failures := 3 }

theorem test_meets_ConfigureUnit :
    let u : UnitCfg := { UnitCfg.delivered with supervisorCode := 4294967295, gasVote := 1 }
    mappedRig.takes .panel = true ∧ (mappedRig.link .panel).authenticated = true ∧ u.inRange = true ∧
      u.supervisorCode < 4294967296 ∧ u.attemptLimit ≠ 0 ∧ u.attemptLimit ≤ mappedRig.failures ∧
      ({ u with attemptLimit := 4 } : UnitCfg).inRange = true ∧ mappedRig.failures < 4 ∧ u.gasVote ≠ mappedRig.unit.gasVote ∧
      u.gasVote ≤ mappedRig.gasCount ∧ mappedRig.gasCount < mappedRig.unit.gasVote := by decide +kernel

theorem test_meets_ConfigureOthers :
    let c : SpotCfg := { SpotCfg.delivered with inService := true }
    let locked : State := { mappedRig with lock := .effective }
    c.inRange = true ∧ spotFunctions.all (fun f => mappedRig.mapped (.spot 1 f)) = true ∧
      (mappedRig.spotCfg.get 1).inService = false ∧ mappedRig.stateOf 1 = .vacant ∧ mappedRig.lock ≠ .effective ∧
      (mappedRig.valve 1 .la).command = .toClose ∧ (mappedRig.valve 1 .la).stroke = none ∧
      mappedRig.mapped (.spot 2 .earth) = false ∧ locked.lock = .effective ∧
      SpotCfg.delivered.sameCustody (locked.spotCfg.get 0) = false ∧ SpotCfg.delivered.sameCustody (locked.spotCfg.get 1) = true ∧
      (rigAt .ready .lineUp).stateOf 0 ≠ .vacant ∧ (locked.products.get 0).configured = true ∧
      (locked.products.get 0).inRange = true ∧ (locked.products.get 1).configured = false ∧
      (⟨false, 0, 4000, 0⟩ : ProductCfg).inRange = true ∧ (⟨false, 0, 4000, 0⟩ : ProductCfg) ≠ locked.products.get 1 ∧
      (transferring.comps.get 0).state ∉ [CompState.outOfService, .idle, .fault] ∧
      ((mappedRig.spotCfg.modify 1 fun c => { c with inService := true }).get 1).sameCustody c = true ∧
      (⟨true, 1, 5071, 150⟩ : ProductCfg).inRange = true ∧ mappedRig.vesselInUse 3 = false ∧
      (rigAt .ready .lineUp).vesselInUse 0 = true ∧ (⟨false, 60⟩ : VesselCfg).inRange = true ∧
      (⟨true, 3600⟩ : VesselCfg).inRange = true ∧ (mappedRig.vessels.get 3).requests = [] := by decide +kernel

/-- R192: under the effective lock a flag-clear record that changes an entry not configured is refused, and one that
configures it is stored. -/
theorem test_lock_and_an_entry_not_configured :
    let reply (c : ProductCfg) := (after (.configure .panel 7 (be 1 3 ++ itemBody (1 : ProductId) ++ productBytes c))
      { authRig with lock := .effective }).replyCode .panel
    reply ⟨false, 2900, 5071, 150⟩ = some .refusedLocked ∧ reply ⟨true, 2900, 5071, 150⟩ = some .done := by decide +kernel

theorem test_meets_ConfigureLine :
    let c (f : FieldFn) : LineCfg := { LineCfg.delivered with function := some f }
    (mappedRig.lineCfg.get 159).edgeOnly (c (.gas 0)) = false ∧ (mappedRig.lineCfg.get 16).function = some (.gas 0) ∧
      (mappedRig.lineCfg.get 0).function = some (.spot 1 .earth) ∧
      ((mappedRig.spotCfg.modify 1 fun c => { c with inService := true }).get 1).inService = true ∧
      mappedRig.touchable (.esd 0) = false ∧ mappedRig.touchable (.spot 2 .earth) = true ∧
      mappedRig.mapped (.esd 0) = false ∧ mappedRig.touchable (.comp 2 .fault) = true ∧
      ((after (.configure .panel 7 (be 1 6 ++ itemBody (159 : LineId) ++ lineBytes { c (.comp 2 .fault) with activeLevel := .low }))
        mappedRig).reading (.comp 2 .fault)) = true := by decide +kernel

theorem test_meets_Bypasses :
    bypassFnOf 1 = some .earth ∧ bypassFnOf 5 = some .vapourInLine ∧ authRig.takes .panel = true ∧
      (authRig.link .panel).authenticated = true ∧ (authRig.spotCfg.get 0).inService = true ∧
      authRig.bypassOf 0 .earth = none ∧ authRig.bypasses.length < 2 ∧ busyRig.bypassOf 0 .earth ≠ none ∧
      busyRig.bypassOf 0 .earth = some ⟨0, .earth, 60000, .supervisory⟩ ∧
      ({ busyRig with bypasses := [⟨0, .earth, 0, .supervisory⟩] } : State).bypassOf 0 .earth = some ⟨0, .earth, 0, .supervisory⟩ ∧
      (authRig.spotCfg.get 1).inService = false ∧
      2 ≤ [(⟨0, .chock, 5, .panel⟩ : Bypass), ⟨1, .chock, 5, .panel⟩].length ∧
      ({ authRig with bypasses := [⟨0, .chock, 5, .panel⟩, ⟨1, .chock, 5, .panel⟩] } : State).bypassOf 0 .earth = none := by
  decide +kernel

theorem test_meets_FieldsOfRequests :
    let field3 (a b c : Nat) : Nat × Nat × Nat := (field [BitVec.ofNat 8 a, BitVec.ofNat 8 b, BitVec.ofNat 8 c] 0 1,
      field [BitVec.ofNat 8 a, BitVec.ofNat 8 b, BitVec.ofNat 8 c] 1 1, field [BitVec.ofNat 8 a, BitVec.ofNat 8 b, BitVec.ofNat 8 c] 2 1)
    field3 1 0 0 = ((0 : SpotId).val + 1, 0, 0) ∧ field3 1 5 0 = (1, 5, 0) ∧ field3 8 4 2 = ((7 : SpotId).val + 1, 4, 2) ∧
      (rig.spots.get 0).seat = .supervisory ∧ (rig.spots.get 7).seat = .supervisory ∧
      (be 1 0 ++ be 1 1 ++ be 2 5).length = 4 ∧ field (be 1 9 ++ be 1 5 ++ be 2 480) 0 1 = 9 ∧
      field (be 1 8 ++ be 1 6 ++ be 2 480) 1 1 = 6 ∧ field (be 1 8 ++ be 1 5 ++ be 2 0) 2 2 = 0 ∧
      field (be 1 8 ++ be 1 5 ++ be 2 481) 2 2 = 481 ∧ (be 1 0 ++ be 1 1).length = 2 := by decide +kernel

/-- R141, R127, R83: a field just past its range is refused, one at its end is not. -/
theorem test_fields_at_their_ends :
    [(1, 0), (1, 1), (1, 480), (1, 481), (0, 5), (9, 5)].map (fun (n, m) =>
        (after (.bypassSet .panel 7 (be 1 n ++ be 1 1 ++ be 2 m)) authRig).replyCode .panel) =
      [some .refusedField, some .done, some .done, some .refusedField, some .refusedField, some .refusedField] ∧
    [(4, 1), (5, 1), (4, 2), (0, 0)].map (fun (v, a) =>
        (after (.valveCommand .supervisory 7 (be 1 1 ++ be 1 v ++ be 1 a)) rig).replyCode .supervisory) =
      [some .done, some .refusedField, some .refusedField, some .refusedField] ∧
    [1, 2].map (fun n => (after (.compressorService .panel 7 (be 1 1 ++ be 1 n)) authRig).replyCode .panel) =
      [some .done, some .refusedField] := by decide +kernel

theorem test_meets_ClockLockRestart :
    authRig.takes .panel = true ∧ (authRig.link .panel).authenticated = true ∧ authRig.lock = .none ∧
      ({ authRig with lock := .pending } : State).lock ≠ .none ∧ authRig.powered = true := by decide +kernel

theorem test_meets_Authentication :
    rig.takes .panel = true ∧ rig.lockout = false ∧ rig.unit.supervisorCode = 0 ∧ (4294967295 : Nat) ≠ rig.unit.supervisorCode ∧
      rig.failures + 1 < rig.unit.attemptLimit ∧ busyRig.unit.attemptLimit ≤ busyRig.failures + 1 ∧
      ({ rig with lockout := true } : State).lockout = true := by decide +kernel

theorem test_meets_LinkEvents :
    let f := rig.modLink .panel fun u => { u with rx := .frame 1 false [] }
    rig.powered = true ∧ (rig.link .panel).rx = .hunt ∧ (f.link .panel).rx = .frame (f.link .panel).frameAddress false [] ∧
      judgeFrame (f.link .panel).frameAddress [241, 1, 1, 5] = .oversize ∧
      judgeFrame (f.link .panel).frameAddress [0, 2, 1, 5, 0, 0] = .badAddress ∧
      judgeFrame (f.link .panel).frameAddress [0, 1, 1, 5, 0, 0] = .badCheck ∧
      ((rig.modLink .panel fun u => { u with rx := .discard }).link .panel).rx = .discard ∧
      ((after (.stop .panel 7 one) rig).link .panel).overruns = true ∧
      ((after (.stop .panel 7 one) rig).link .panel).exchange =
        .busy ⟨(rig.linkCfg.get 1).address, 0x13, 7, .refusedState, .none⟩ .nothing ∧
      rig.takes .panel = true ∧ (0x50 : Byte) ∉ catalogue ∧ (0xFF : Byte) ∉ catalogue := by decide +kernel

theorem test_meets_LinkSettingsReply :
    let s := after (.configure .panel 7 (be 1 8 ++ itemBody (linkIndex .panel) ++ linkBytes ⟨9, .baud9600⟩)) authRig
    (match (s.link .panel).exchange with
      | .busy _ (.applyLink m cfg) => decide (m = .panel) && decide (s.linkCfg.get (linkIndex m) = cfg)
      | _ => false) = true ∧ s.powered = true := by decide +kernel

theorem test_meets_Restart :
    let s := after (.restart .panel 7 []) authRig
    (match (s.link .panel).exchange with
      | .busy _ .restart => true
      | _ => false) = true ∧ s.powered = true := by decide +kernel

/-- The controller without supply, spot 1 having left a record that earns a ticket, and the line of one function active
when power comes. -/
def darkRig (f : FieldFn) : State :=
  (after .supplyLoss (reads f (keeping (withRecord (fun r => { r with enteredTransfer := true }) transferring))))

theorem test_meets_RestartFromRecord :
    let s := darkRig (.spot 0 .earth)
    let t := after .powerUp s
    ((s.spots.get 0).retained.map fun k => k.record.enteredTransfer) = some true ∧ (s.spots.get 1).retained = none ∧
      t.siteTrip.active = false ∧ t.reading (.spot 0 .spotEsd) = false ∧ t.highLevel 0 = false ∧ s.readyPending 0 = false ∧
      t.allClosed 0 = false ∧
      [FieldFn.esd 0, .spot 0 .spotEsd, .highLevel 0].map (fun f => (after .powerUp (darkRig f)).stateOf 0) =
        [.tripped, .tripped, .tripped] ∧
      (after .powerUp { s with tickets := List.replicate 32 (rigTicket 5) }).pendingOrder = [⟨0, false⟩] := by decide +kernel

theorem test_meets_LineUsers :
    let s := reads (.spot 0 .earth) ((rigAt .ordered .lineUp).modLine 0 fun x => { x with candidate := some (0, 5) })
    let e := (rigAt .liningUp .lineUp).modSpot 0 fun p =>
      { p with engine := .running ⟨.lineUpConfigured, [⟨.dr, .toClose, true⟩, ⟨.la, .toOpen, true⟩], 1, true⟩ }
    (s.lineCfg.get 0).function = some (.spot 0 .earth) ∧ (s.lines.get 0).candidate = some (0, 5) ∧
      ((after (.filterAccept 0) s).lines.get 0).filtered ≠ (s.lines.get 0).filtered ∧ (s.stateOf 0) = .ordered ∧
      ((rigAt .ready .lineUp).stateOf 0).trippable = true ∧ (rig.stateOf 0).trippable = false ∧ e.shows 0 .dr .toClose = false ∧
      (reads (.spot 0 (.closedProven .dr)) e).shows 0 .dr .toClose = true ∧
      (reads (.spot 0 (.closedProven .dr)) e).shows 0 .la .toOpen = false ∧ e.stateOf 0 = .liningUp ∧
      (reads (.gas 0) { rig with unit := { rig.unit with gasVote := 1 } }).gasCount = 1 ∧
      rig.gasCount < rig.unit.gasVote ∧ trippedRig.siteTrip.active = true ∧ rig.vesselOf 1 = none ∧
      transferring.vesselOf 0 = some 0 ∧ (transferring.comps.get 0).state = .runPush ∧
      (rig.comps.get 0).state = .outOfService := by decide +kernel

theorem test_meets_OtherUsers :
    ((rigAt .ready .lineUp).spots.get 0).meter.window ≠ none ∧ (rig.spots.get 0).meter.window = none ∧
      (((rigAt .ready .lineUp).react (.functionChanged (.spot 0 .vapourInLine) true)).1.spots.get 0).meter.vapourSeen = true ∧
      (rig.comps.get 0).state ≠ .starting ∧
      (rig.comps.get 0).state ∉ [CompState.runPush, .runPull, .changeoverInPlace, .stopping true] := by decide +kernel

theorem test_meets_Lines :
    rig.powered = true ∧ Level.high ≠ (rig.lines.get 159).raw ∧ (rig.lineCfg.get 159).filterTime ≠ 0 ∧
      ((rig.lineCfg.modify 159 fun c => { c with filterTime := 0 }).get 159).filterTime = 0 ∧
      ((after (.rawLevelChange 159 .high) rig).lines.get 159).candidate = some (49 + 1, 100) ∧
      ((after (.rawLevelChange 159 .high) rig).lineCfg.get 159).function = none := by decide +kernel

theorem test_meets_Conversions :
    rig.powered = true ∧
      [3599, 3600, 3999, 4000, 20000, 20001, 21000, 21001].map (fun n => ((after (.analogConversion 0 n) rig).analog.get 0).fault) =
        [true, false, false, false, false, false, false, true] := by decide +kernel

/-- Spot 1 in RECOVERY with a target of 300 cbar and a car pressure. -/
def recovering (car : Int) : State :=
  pressures car 0 (((holding .recovery).modComp 0 fun c => { c with state := .runPull, assigned := some (0, .pull) }).modVessel 0
    fun v => { v with committed := 0, reservations := [] }) |> withRecord fun r =>
      { r with phase := .recovery, endCause := some .liquidOut, order := { r.order with recoveryTarget := some 300 } }

theorem test_meets_ConversionUsers :
    let s := pressures 900 100 transferring
    (s.analog.get (carChannel 0)).fault = false ∧ (s.analog.get (tempChannel 0)).reading = none ∧ s.stateOf 0 = .transfer ∧
      s.vesselOf 0 = some 0 ∧ s.pressuresGood 0 = true ∧ rig.pressuresGood 0 = false ∧
      (recovering 300).stateOf 0 = .recovery ∧ (recovering 300).noOtherWaits 0 ∧
      (recovering 300).firstStepWaits 0 ((recovering 300).closeDown.get 0) = true ∧
      ((recovering 300).recordOf 0).map (fun r => r.endCause) = some (some .liquidOut) ∧
      (recovering 30).goodReading (carChannel 0) = some 30 ∧ ((recovering 30).spotCfg.get 0).vacuumGuard = 30 ∧
      (recovering 300).goodReading (carChannel 0) = some 300 ∧ (recovering 300).atRecoveryTarget 0 = true ∧
      (recovering 301).atRecoveryTarget 0 = false ∧ ((recovering 30).spotCfg.get 0).carMaximum = 1700 ∧
      (pressures 1700 0 s).goodReading (carChannel 0) = some 1700 ∧ (rig.analog.get (vesselChannel 0)).fault = false ∧
      (([3600, 21000].map fun n => (after (.analogConversion (vesselChannel 0) n) transferring).goodReading
        (vesselChannel 0)).all fun x => x.isSome) = true := by
  unfold State.noOtherWaits
  decide +kernel

theorem test_meets_Ctl : (metered 5 5 false).powered = true ∧ ((metered 5 5 false).spots.get 0).meter.vapourSeen = false := by
  decide +kernel

theorem test_meets_WindowClose :
    (metered 9000 9001 true).powered = true ∧ ((metered 9000 9001 true).spots.get 0).meter.window = some 0 ∧
      ((metered 9000 9001 true).recordOf 0).isSome = true ∧
      (metered 9000 9001 true).stateOf 0 ∈ [SpotState.ordered, .liningUp, .ready, .held, .closing, .tripped] ∧
      ((metered 9000 9001 true).spots.get 0).meter.vapourSeen = true ∧
      ((metered 9000 9001 false).spots.get 0).meter.vapourSeen = false ∧ (transferring.spots.get 0).meter.window = some 0 ∧
      (transferring.recordOf 0).isSome = true ∧ ((metered 5 5 false).spots.get 0).meter.hold ≠ .substituted ∧
      ((metered 5 5 false).analog.get (tempChannel 0)).reading = some (-124) := by decide +kernel

/-- R69: an overrun equal to the tolerance, or one that the record has latched already, adds no latch; 1 g more does. -/
theorem test_window_latches_overrun_once :
    ([(50000, false), (50001, true), (50001, false)].map fun x =>
      let s := withRecord (fun r => { r with netMass := 1000000 + x.1, overrunLatched := x.2 }) (metered 0 0 false)
      decide ((after (.windowClose 0) s).latches = s.latches)) = [true, true, false] := by decide +kernel

/-- R43, R44, R47: the temperature flags and the extremes of a LIQUID window whose held temperature is one tenth beyond the
range of R43. -/
theorem test_window_notes_its_temperature :
    let s := ((metered 5 5 false).modAnalog 0 fun x => { x with reading := some 601 }).modSpot 0 fun p =>
      { p with meter := { p.meter with hold := .held 5 } }
    ((after (.windowClose 0) s).recordOf 0).map (fun r => (r.tempHeld, r.tempSubstituted, r.tempClamped, r.tempExtremes)) =
      some (true, false, true, some (600, 600)) := by decide +kernel

theorem test_meets_Pulses :
    let h := rig.modSpot 0 fun p => { p with meter := { p.meter with hold := .held 0 } }
    transferring.powered = true ∧ (transferring.spots.get 0).meter.window.isSome = true ∧
      (h.spots.get 0).meter.hold = .held 0 := by decide +kernel

/-- The integrity checks of a window at their boundaries: no pulse on one channel with flow on the other, the third in a row. -/
theorem test_meets_Integrity :
    let i (a b silent : Nat) (health : Health) := integrityCheck SpotCfg.delivered { Record.opened rigOrder with mismatch := 9 }
      { (rig.spots.get 0).meter with countA := a, countB := b, silentA := silent, silentB := silent, health := health }
    (i 0 20 1 .both).failover = false ∧ (i 0 20 2 .both).meter.primary = .b ∧ (i 20 0 2 .both).meter.health = .bFailed ∧
      (i 5 5 2 .both).mismatch = 9 ∧ (i 7 5 2 .both).pulseFault = true ∧ (i 0 20 2 .aFailed).mismatch = 9 ∧
      [20, 19, 8, 7].map (fun n => flowAfter SpotCfg.delivered n true) = [true, true, true, false] := by decide +kernel

/-- A window result: a class, with flow or without. -/
def result (cls : WindowClass) (flow : Bool) (grams : Nat) : WindowResult := ⟨5, flow, cls, 3, grams, none⟩

/-- The transfer with a void run of five windows, dp at the stall limit and no stall timer. -/
def voidRunRig : State :=
  (pressures 250 100 transferring).modSpot 0 fun p => { p with driver := { p.driver with voidRun := 5, stall := none } }

theorem test_meets_WindowToDriver :
    voidRunRig.stateOf 0 = .transfer ∧ (result .void false 0).cls = .void ∧
      (voidRunRig.spotCfg.get 0).emptyCount = (voidRunRig.spots.get 0).driver.voidRun + 1 ∧ voidRunRig.dp 0 = some 150 ∧
      (voidRunRig.spotCfg.get 0).stallDp = 150 ∧ (voidRunRig.spots.get 0).driver.stall = none ∧
      (rigAt .settling .liquid).stateOf 0 = .settling ∧ rig.stateOf 0 ≠ .transfer ∧ rig.stateOf 0 ≠ .settling ∧
      ((transferring.spotCfg.modify 0 fun c => { c with holdOnPulseFault := true }).get 0).holdOnPulseFault = true := by
  decide +kernel

theorem test_meets_Consumption :
    (Vessel.grant 0 500 (rig.vessels.get 0)).balanced ∧
      ((Vessel.grant 0 500 (rig.vessels.get 0)).consume 0 500000).committed = 0 ∧
      ((Vessel.grant 0 500 (rig.vessels.get 0)).consume 0 9882).committed = 491 := by
  unfold Vessel.balanced
  decide +kernel

/-- Spot 1 in TRANSFER with a current block, of which some is outstanding, and a next one or none. -/
def drawing (left : Nat) (next : List Reservation) : State :=
  transferring.modVessel 0 fun v => { v with
    reservations := ⟨0, 500, left, .current⟩ :: next
    committed := left + outstandingSum next }

theorem test_meets_WindowToVessel :
    let n : Reservation := ⟨0, 500, 500, .next⟩
    let preset (g : Nat) := withRecord (fun r => { r with netMass := g }) (drawing 100 [])
    ((drawing 100 [n]).vessels.get 0).balanced ∧ (drawing 100 [n]).consumes 0 = true ∧
      (((drawing 100 [n]).vessels.get 0).consume 0 100000).reservation 0 .current = some ⟨0, 500, 0, .current⟩ ∧
      (∀ y ∈ (((drawing 100 [n]).vessels.get 0).consume 0 100000).reservations, y.spot = 0 → y = ⟨0, 500, 0, .current⟩ ∨ y = n) ∧
      (∀ y ∈ (((drawing 100 []).vessels.get 0).consume 0 100000).reservations, y.spot = 0 → y.outstanding = 0) ∧
      ((drawing 100 []).vessels.get 0).reservation 0 .current = some ⟨0, 500, 100, .current⟩ ∧
      ((drawing 100 []).vessels.get 0).hasNext 0 = false ∧ ((drawing 100 []).vessels.get 0).hasRequest 0 = false ∧
      ((drawing 100 [n]).vessels.get 0).hasNext 0 = true ∧
      ((drawing 101 []).vessels.get 0).reservation 0 .current = some ⟨0, 500, 101, .current⟩ ∧
      ((drawing 100 []).spotCfg.get 0).presetLead = 200 ∧
      [799999, 800000].map (fun g => ((preset g).react (.windowToVessel 0 (result .liquid true 5))).1.stateOf 0) =
        [.transfer, .settling] ∧
      ((drawing 100 []).spotCfg.get 0).overrunTolerance = 50 := by
  unfold Vessel.balanced
  decide +kernel

/-- Spot 1 in a state with a compressor, without a block, its request pending or not, and an ullage wait limit. -/
def waiting (st : SpotState) (limit : Nat) (requested : Bool) : State :=
  let s := (rigAt st .liquid).modComp 0 fun c => { c with state := .runPush, assigned := some (0, .push) }
  { s.modVessel 0 fun v => { v with requests := if requested then [⟨0, 500⟩] else [] } with
    spotCfg := s.spotCfg.modify 0 fun c => { c with ullageWaitLimit := limit } }

/-- R66: the wait runs in PAUSED for ullage, and in PRESSURISING with a request pending; a limit of 0 gives the compressor up. -/
theorem test_meets_StartWait :
    let due (s : State) := decide (s.compOf 0 ≠ none ∧ (s.spots.get 0).ullageWait = none) && (s.recordOf 0).isSome
    let wait (s : State) := let t := s.react (.startWait 0); (t.1.stateOf 0, (t.1.spots.get 0).ullageWait, t.2)
    [waiting (.paused .ullage) 1 false, waiting (.paused .ullage) 0 true, waiting .pressurising 3600 true,
      waiting .pressurising 0 true].all due = true ∧
      ((waiting .pressurising 0 true).vessels.get 0).hasCurrent 0 = false ∧
      ((waiting .pressurising 0 true).vessels.get 0).hasRequest 0 = true ∧
      [waiting (.paused .ullage) 1 false, waiting (.paused .ullage) 0 true, waiting .pressurising 3600 true,
          waiting .pressurising 0 true, waiting .pressurising 0 false].map wait =
        [(.paused .ullage, some 1000, []), (.paused .ullage, none, [.releaseCompressor 0 false]),
          (.pressurising, some 3600000, []), (.paused .ullage, none, [.releaseCompressor 0 false, .overpressureTest 0]),
          (.pressurising, none, [])] := by decide +kernel

/-- The rig with a block request of spot 1 and its queue entry, and compressor 2 idle. -/
def waitingRig (kg : Nat) : State :=
  { ((rigAt .awaitCompressor .liquid).modComp 1 fun c => { c with state := .idle, position := .push }).modVessel 0
      (fun v => { v with requests := [⟨0, kg⟩] }) with queue := [⟨0, .push, 0⟩] }

theorem test_meets_Release :
    let preset (left : Nat) := withRecord (fun r => { r with netMass := 800000 }) (drawing left [])
    ((drawing 0 []).recordOf 0).isSome = true ∧ ((drawing 0 []).vessels.get 0).hasAny 0 = true ∧ (rig.vessels.get 0).hasAny 0 = false ∧
      ((preset 5).react (.windowToVessel 0 (result .liquid true 5000))).1.stateOf 0 = .settling ∧
      (((preset 5).react (.windowToVessel 0 (result .liquid true 5000))).1.react (.releaseStorage 0)).2 = [.grantPass 0] := by
  decide +kernel

theorem test_meets_Heads :
    let s := waitingRig 10000
    (s.vessels.get 0).requests = [⟨0, 10000⟩] ∧ s.highLevel 0 = false ∧ 10000 ≤ (s.vessels.get 0).free ∧
      ((waitingRig 10001).vessels.get 0).free < 10001 ∧ (reads (.highLevel 0) s).highLevel 0 = true ∧
      s.queue = [⟨0, .push, 0⟩] ∧ s.siteTrip.active = false ∧ (s.comps.get 1).state = .idle ∧
      (s.comps.get 1).position = .push ∧ (∀ b : CompId, b < 1 → ¬((s.comps.get b).state = .idle)) ∧
      (∀ b : CompId, ¬((s.comps.get b).state = .idle ∧ (s.comps.get b).position = .pull)) := by decide +kernel

/-- R75 to R78: a grant against the position changes over, one along it starts, or runs where the motor turns. -/
theorem test_meets_Grant :
    let at' (d : Direction) := idling d (waitingRig 10000)
    let granted (s : State) := let t := s.react .arbiter; ((t.1.comps.get 1).state, t.2)
    (at' .pull).provenOf 1 = none ∧ (at' .push).reading (.comp 1 .running) = false ∧
      (reads (.comp 1 .running) (at' .push)).reading (.comp 1 .running) = true ∧
      [at' .pull, at' .push, reads (.comp 1 .running) (at' .push)].map granted =
        [(.changeoverFromIdle, [.grantReached 0, .arbiter]), (.starting, [.grantReached 0, .arbiter]),
          (.runPush, [.grantReached 0, .runReached 1, .arbiter])] := by decide +kernel

/-- R13, R95, R101: what a grant does to a spot by its state and phase; the ladder step goes to the floor of 1. -/
theorem test_meets_GrantReached :
    let stepped (s : State) := s.modSpot 0 fun p => { p with driver := { p.driver with step := 5 } }
    let t (st : SpotState) (ph : Phase) := (stepped (rigAt st ph)).react (.grantReached 0)
    (rigAt .awaitCompressor .liquid).inPhase 0 .liquid = true ∧ (rigAt .awaitCompressor .recovery).inPhase 0 .recovery = true ∧
      (t .awaitCompressor .liquid).1.stateOf 0 = .pressurising ∧
      ((t .awaitCompressor .liquid).1.spots.get 0).driver.pressurise = some 300000 ∧
      (t .awaitCompressor .liquid).2 = [.overpressureTest 0, .askFirst 0, .startWait 0, .transferTest 0] ∧
      (t .awaitCompressor .recovery).1.stateOf 0 = .awaitCompressor ∧ (t .awaitCompressor .recovery).2 = [] ∧
      (t (.paused .compressor) .liquid).2 = [.transferTest 0] ∧
      [t .awaitCompressor .liquid, t .awaitCompressor .recovery, t (.paused .compressor) .liquid].map (fun u =>
          (u.1.spots.get 0).driver.step) = [1, 1, 1] ∧
      (holding .transfer).react (.blockGranted 0) = (holding .transfer, []) := by decide +kernel

/-- The transfer, or the wait before it, with pressures that make dp the ladder value of the step. -/
def readyToTransfer (st : SpotState) : State := pressures 150 100 (holding st)

theorem test_meets_TransferEntry :
    (readyToTransfer .pressurising).holdsRunPush 0 = true ∧ ((readyToTransfer .pressurising).vessels.get 0).hasCurrent 0 = true ∧
      (readyToTransfer .pressurising).dp 0 = some 50 ∧
      (readyToTransfer .pressurising).ladderValue ((readyToTransfer .pressurising).spots.get 0).driver.step = 50 ∧
      ((readyToTransfer .pressurising).react (.transferTest 0)).1.stateOf 0 = .transfer ∧
      ((pressures 149 100 (holding .pressurising)).react (.transferTest 0)).1.stateOf 0 = .pressurising ∧
      (rigAt (.paused .ullage) .liquid).compOf 0 = none ∧ (holding (.paused .ullage)).holdsRunPush 0 = true ∧
      (holding (.paused .ullage)).stateOf 0 = .paused .ullage := by decide +kernel

/-- R62, R100: in PAUSED (COMPRESSOR) the grant of a next reservation is no test for TRANSFER. -/
theorem test_next_grant_changes_nothing :
    let s := readyToTransfer (.paused .compressor)
    let t := s.modVessel 0 (Vessel.grant 0 500)
    s.react (.blockGranted 0) = (s, [.transferTest 0]) ∧ (t.vessels.get 0).hasNext 0 = true ∧
      t.react (.blockGranted 0) = (t, []) ∧ (t.react (.transferTest 0)).1.stateOf 0 = .transfer := by decide +kernel

theorem test_meets_Requests :
    let left (g : Nat) := withRecord (fun r => { r with netMass := g }) (rigAt (.paused .ullage) .liquid)
    [500000, 500999, 501000, 999999, 1000000].map (fun g =>
        (((left g).requestBlock 0).1.vessels.get 0).reservations.map fun x => x.granted) = [[500], [500], [499], [1], []] ∧
      ((rigAt (.paused .ullage) .liquid).vessels.get 0).requests = [] ∧ (rigAt (.paused .ullage) .liquid).highLevel 0 = false ∧
      (holding .transfer).compOf 0 = some 0 ∧
      ((holding .transfer).comps.get 0).state = .runPush := by decide +kernel

theorem test_meets_CompressorTimers :
    let f (k : CompState) := (holding .pressurising).modComp 0 fun c => { c with state := k, timer := some 0 }
    (f .starting).powered = true ∧ ((f .starting).comps.get 0).timer = some 0 ∧ (f .starting).compOf 0 = some 0 ∧
      (f .starting).noneIdle ∧ (f .starting).stateOf 0 = .pressurising ∧
      ((f .changeoverInPlace).comps.get 0).state ∈ [CompState.changeoverFromIdle, .changeoverInPlace] ∧
      (let s := (f .changeoverInPlace).modComp 0 fun c => { c with commanded := .pull, position := .push }
       (s.comps.get 0).position ≠ (s.comps.get 0).commanded ∧ s.provenOf 0 ≠ some (s.comps.get 0).commanded) ∧
      ((f (.stopping false)).comps.get 0).state = .stopping false ∧ (f (.stopping false)).queue = [] := by
  unfold State.noneIdle
  decide +kernel

/-- R90: the table of what becomes of the holder; in SETTLING it stays without an entry. -/
theorem test_meets_CompressorFault :
    let s (st : SpotState) (ph : Phase) := (rigAt st ph).modComp 0 fun c => { c with state := .runPush, assigned := some (0, .push) }
    let t (st : SpotState) (ph : Phase) := (s st ph).react (.compressorFault 0)
    let row (u : Reacted) := (u.1.stateOf 0, u.1.queue.map (fun e => e.direction), u.2)
    ((s .transfer .liquid).comps.get 0).assigned = some (0, .push) ∧ (rig.comps.get 0).assigned = none ∧
      (s .awaitCompressor .recovery).inPhase 0 .recovery = true ∧
      [t .pressurising .liquid, t .transfer .liquid, t (.paused .ullage) .liquid, t (.paused .compressor) .liquid,
          t .awaitCompressor .recovery, t .recovery .recovery, t .settling .liquid].map row =
        [(.awaitCompressor, [.push], [.arbiter]), (.paused .compressor, [.push], [.arbiter, .overpressureTest 0]),
          (.paused .compressor, [.push], [.arbiter]), (.paused .compressor, [.push], [.arbiter]),
          (.awaitCompressor, [.pull], [.arbiter]), (.awaitCompressor, [.pull], [.arbiter]), (.settling, [], [])] ∧
      ((t .settling .liquid).1.comps.get 0).state = .fault ∧
      (after (.runUpExpiry 0) ((idling .push (holding .pressurising)).modComp 0 fun c =>
        { c with state := .starting, timer := some 0 })).compOf 0 = some 1 := by decide +kernel

/-- Spot 1 settling, or recovering, with every timer of that state. -/
def endingRig (st : SpotState) (target : Option Nat) : State :=
  (rigAt st .liquid).modSpot 0 fun p =>
    { p with
      driver := { p.driver with settle := some 0, settleLimit := some 0, recoveryLimit := some 0, recoveryProving := some 0 }
      record := p.record.map fun r =>
        { r with order := { r.order with recoveryTarget := target }, endCause := some .liquidOut, enteredTransfer := true } }

/-- Spot 1 with phase RECOVERY and a target, given compressor 1, which runs; its car pressure channel in fault or not. -/
def pullRig (st : SpotState) (run : CompState) (fault : Bool) : State :=
  ((endingRig st (some 300)).modComp 0 fun c => { c with state := run, assigned := some (0, .pull) }).modAnalog (carChannel 0)
    fun x => { x with reading := some 300, fault := fault }

/-- R78, R108, R110: the report of a running compressor tests its holder for TRANSFER, begins the recovery of one that waits
for it, or ends it at once with the held reading. -/
theorem test_meets_RunReached :
    let t (st : SpotState) (run : CompState) (fault : Bool) :=
      (withRecord (fun r => { r with phase := .recovery }) (pullRig st run fault)).react (.runReached 0)
    let went := t .awaitCompressor .runPull false
    let ended := t .awaitCompressor .runPull true
    (t .pressurising .runPush false).2 = [.transferTest 0] ∧ (t .recovery .runPull false).2 = [] ∧
      went.1.stateOf 0 = .recovery ∧ went.2 = [.overpressureTest 0] ∧
      (went.1.spots.get 0).driver.recoveryLimit = some 5400000 ∧ (went.1.spots.get 0).driver.recoveryProving = some 30000 ∧
      ended.1.stateOf 0 = .closing ∧ ended.1.spotLatched 0 .pressureChannel = true ∧
      (ended.1.recordOf 0).map (fun r => (r.recoveryIncomplete, r.recoveryEnd, r.endCause)) =
        some (true, some 300, some .liquidOut) ∧
      ended.2 = [.releaseStorage 0, .releaseCompressor 0 false, .engineRun 0] := by decide +kernel

/-- Compressor 1 in a state, given to spot 1 for a direction and commanded so, with one function active. -/
def feedbackRig (k : CompState) (d : Direction) (f : CompFn) : State :=
  reads (.comp 0 f) ((holding .awaitCompressor).modComp 0 fun c =>
    { c with state := k, commanded := d, assigned := some (0, d), position := .push })

theorem test_meets_DirectionFeedback :
    let a := feedbackRig .changeoverFromIdle .pull .pullProven
    let b := feedbackRig .changeoverInPlace .pull .pullProven
    let none' := feedbackRig .idle .push .running
    let both (s : State) : State := { s with lineCfg := s.lineCfg.modify 1 fun c =>
      { c with function := some (.comp 0 .running), activeLevel := .low } }
    let proven (s : State) : Bool × Bool × Bool :=
      (s.reading (.comp 0 .pushProven), s.reading (.comp 0 .pullProven), s.reading (.comp 0 .running))
    proven a = (false, true, false) ∧ proven (both a) = (false, true, true) ∧ proven none' = (false, false, true) ∧
      proven (feedbackRig .idle .push .pushProven) = (true, false, false) ∧
      [a, both a, b, feedbackRig .idle .pull .pullProven, feedbackRig .changeoverFromIdle .push .pullProven].map (fun s =>
          let t := s.react (.functionChanged (.comp 0 .pullProven) true)
          ((t.1.comps.get 0).state, (t.1.comps.get 0).position, t.2)) =
        [(.starting, .pull, []), (.runPull, .pull, [.runReached 0]), (.runPull, .pull, [.runReached 0]), (.idle, .pull, []),
          (.changeoverFromIdle, .pull, [])] ∧
      ((feedbackRig (.stopping true) .push .fault).comps.get 0).state = .stopping true := by decide +kernel

theorem test_meets_UllageWait :
    let s := (holding .pressurising).modSpot 0 fun p => { p with ullageWait := some 0 }
    s.powered = true ∧ (s.spots.get 0).ullageWait = some 0 ∧ s.stateOf 0 = .pressurising ∧ s.compOf 0 = some 0 ∧
      s.queue = [] ∧ s.pressureSafe 0 = true := by decide +kernel

theorem test_meets_Dwell :
    transferring.powered = true ∧ (transferring.spots.get 0).driver.dwell = some 0 ∧
      (transferring.comps.get 0).state = .runPush ∧ (transferring.comps.get 0).assigned = some (0, .push) ∧
      2 * 30000 ≤ seconds (transferring.spotCfg.get 0).dwell ∧ ¬(2 * 30001 ≤ seconds (transferring.spotCfg.get 0).dwell) := by
  decide +kernel

theorem test_meets_Settling :
    let s := endingRig .settling none
    let w := endingRig .settling (some 100)
    s.powered = true ∧ (s.recordOf 0).isSome = true ∧ s.stateOf 0 ≠ .tripped ∧ s.noOtherWaits 0 ∧
      s.firstStepWaits 0 (s.closeDown.get 0) = true ∧ (s.spots.get 0).driver.settle = some 0 ∧
      (s.spots.get 0).driver.settleLimit = some 0 ∧
      (s.recordOf 0).map (fun r => (r.recoveryDue, r.endCause)) = some (false, some .liquidOut) ∧
      (s.spots.get 0).driver.recoveryProving = some 0 ∧ (s.spots.get 0).driver.recoveryLimit = some 0 ∧
      (endingRig .recovery none).stateOf 0 = .recovery ∧ (endingRig .recovery none).takes .panel = true ∧
      (endingRig .recovery none).allClosed 0 = false ∧ (rigAt .held .recovery).stateOf 0 = .held ∧
      (rigAt .held .recovery).inPhase 0 .recovery = true ∧
      (w.recordOf 0).map (fun r => r.recoveryDue) = some true ∧ w.compOf 0 = none ∧ w.noneIdle ∧
      (w.modComp 0 fun c => { c with state := .runPush, assigned := some (0, .push) }).compOf 0 = some 0 ∧
      (w.analog.get (carChannel 0)).fault = false ∧ w.pressureSafe 0 = true ∧ (w.comps.get 0).position = .push ∧
      w.provenOf 0 ≠ some .pull := by
  unfold State.noOtherWaits State.noneIdle
  decide +kernel

/-- R106, R110: a recovery due that finds the car pressure channel in fault ends at the end of settling. Log 43: it latches
PRESSURE_CHANNEL again where that had been cleared. -/
theorem test_meets_SettlingInFault :
    let s := pullRig .settling .runPush true
    let t := after (.settleLimitExpiry 0) s
    s.powered = true ∧ s.stateOf 0 ≠ .tripped ∧ s.compOf 0 = some 0 ∧ (s.analog.get (carChannel 0)).fault = true ∧
      (s.recordOf 0).map (fun r => (r.recoveryDue, r.endCause)) = some (true, some .liquidOut) ∧ s.noOtherWaits 0 ∧
      s.firstStepWaits 0 (s.closeDown.get 0) = true ∧ (s.spots.get 0).driver.settle = some 0 ∧
      (s.spots.get 0).driver.settleLimit = some 0 ∧ s.spotLatched 0 .pressureChannel = false ∧
      t.stateOf 0 = .closing ∧ (t.spots.get 0).engine = .running ⟨.closeDown, s.closeDown.get 0, 1, true⟩ ∧
      (t.recordOf 0).map (fun r => (r.phase, r.recoveryIncomplete, r.recoveryEnd)) = some (.recovery, true, some 300) ∧
      t.spotLatched 0 .pressureChannel = true ∧ (t.comps.get 0).state = .stopping false ∧ (t.comps.get 0).assigned = none := by
  unfold State.noOtherWaits
  decide +kernel

/-- Spot 1 in SETTLING with end cause ABORTED and its settle timers run out, all five valves showing CLOSED. -/
def abortedRig (queued : Nat) (order : List PendingEntry) (entered : Bool) : State :=
  (shutRig queued order entered).modSpot 0 fun p =>
    { p with
      state := .settling
      engine := .idle
      driver := { p.driver with settle := some 0, settleLimit := some 0 }
      record := p.record.map fun r => { r with endCause := some .aborted } }

theorem test_meets_SettlingAborted :
    let valvesOpen : State := { abortedRig 0 [] true with lineCfg := rig.lineCfg }
    let ends (s : State) := [Instr.settleTimerExpiry 0, .settleLimitExpiry 0].map fun c => (after c s).stateOf 0
    [abortedRig 0 [] false, abortedRig 31 [] true, abortedRig 32 [] true, abortedRig 0 [⟨1, false⟩] true].all (fun s =>
        s.powered && s.allClosed 0 && !s.inPending 0 && decide (s.stateOf 0 = .settling)) = true ∧
      valvesOpen.noOtherWaits 0 ∧ (abortedRig 32 [] true).noOtherWaits 0 ∧ valvesOpen.allClosed 0 = false ∧
      ends valvesOpen = [.closing, .closing] ∧ ((abortedRig 0 [] false).recordOf 0).map (fun r => r.netMass) = some 0 ∧
      ends (abortedRig 32 [] true) = [.closing, .closing] ∧ (abortedRig 31 [] true).tickets.length = 31 := by
  unfold State.noOtherWaits
  decide +kernel

/-- Spot 1 with an OPEN stroke of VA run out, of a given owner, and a list engine. -/
def openingVa (st : SpotState) (owner : StrokeOwner) (engine : Engine) : State :=
  (rigAt st .lineUp).modSpot 0 fun p =>
    { p with engine := engine, valves := p.valves.modify (valveIndex .va) fun u =>
        { u with command := .toOpen, stroke := some ⟨.toOpen, 0, owner⟩ } }

/-- A close-down of two steps that opens VA and then the drain. -/
def openingSteps : List ListStep := [⟨.va, .toOpen, true⟩, ⟨.dr, .toOpen, true⟩]

theorem test_meets_OpenStepFails :
    let lineUp := openingVa .liningUp (.listStep 0) (.running ⟨.lineUpConfigured, openingSteps, 1, true⟩)
    let closeDown := openingVa .closing (.listStep 0) (.running ⟨.closeDown, openingSteps, 1, true⟩)
    let left := openingVa .settling .abandonedList .idle
    lineUp.powered = true ∧ (lineUp.valve 0 .va).stroke = some ⟨.toOpen, 0, .listStep 0⟩ ∧ lineUp.stateOf 0 = .liningUp ∧
      lineUp.noOtherWaits 0 ∧ lineUp.pressureSafe 0 = true ∧ closeDown.stateOf 0 = .closing ∧
      (closeDown.spotCfg.get 0).inService = true ∧ (closeDown.valve 0 .va).command = .toOpen ∧
      openingSteps[1]? = some ⟨.dr, .toOpen, true⟩ ∧ closeDown.shows 0 .dr .toOpen = false ∧
      closeDown.siteTrip.active = false ∧ closeDown.stepProven 0 ⟨.closeDown, openingSteps, 1, true⟩ = false ∧
      (left.valve 0 .va).stroke = some ⟨.toOpen, 0, .abandonedList⟩ ∧ (left.spots.get 0).engine = .idle ∧
      closeDown.allClosed 0 = false := by
  unfold State.noOtherWaits
  decide +kernel

/-- R118, R123: the failed OPEN of a close-down step closes its valve, and the next step is issued. -/
theorem test_close_down_goes_on_after_a_failed_open :
    let t := after (.strokeTimeout 0 .va)
      (openingVa .closing (.listStep 0) (.running ⟨.closeDown, openingSteps, 1, true⟩))
    t.stateOf 0 = .closing ∧ (t.valve 0 .va).command = .toClose ∧ (t.valve 0 .dr).command = .toOpen := by decide +kernel

theorem test_meets_ValveTimers :
    transferring.powered = true ∧ (transferring.valve 0 .lh).stroke = some ⟨.toOpen, 0, .lh⟩ ∧
      transferring.stateOf 0 = .transfer ∧ transferring.noOtherWaits 0 ∧ transferring.pressureSafe 0 = true ∧
      (transferring.spots.get 0).engine = .idle ∧ (rigAt .ready .lineUp).stateOf 0 ≠ .transfer ∧
      (rigAt .complete .liquid).stateOf 0 = .complete ∧ SpotState.complete.trippable = false ∧
      (closingVa.valve 0 .va).disagreement = some 0 ∧
      (let s := after (.valveCommand .supervisory 7 (one ++ be 1 (valveCode .va) ++ be 1 Action.toOpen.code)) rig
       ((s.valve 0 .va).stroke.map fun k => (k.target, k.owner)) = some (.toOpen, .valveCommand)) := by
  unfold State.noOtherWaits
  decide +kernel

theorem test_meets_ShapeSeatClass :
    rig.takes .panel = true ∧ ([] : List Byte).length ≠ 1 ∧ oneBased 8 (field [9] 0 1) = none ∧ oneBased 8 (field [0] 0 1) = none ∧
      (rig.spots.get 7).seat ≠ .panel ∧ (rig.link .panel).authenticated = false ∧ (rig.spots.get 0).seat ≠ .panel ∧
      field (orderBody 500) 0 1 = (0 : SpotId).val + 1 ∧ orderShape (orderBody 500) = true ∧ orderShape [1] = false ∧
      field [5] 0 1 = 4 + 1 ∧ field [16] 0 1 = 15 + 1 ∧ configShape [1, 0] = false ∧
      configShape ([5, 1] ++ compBytes CompCfg.delivered) = true ∧ listShape [1, 1] = false ∧
      listShape ([1, 1] ++ listBytes []) = true ∧ (be 4 5).length = 4 := by decide +kernel

/-- A record of bytes with one of them changed, under a target and an index. -/
def changed (target index i b : Nat) (bytes : List Byte) : List Byte :=
  be 1 target ++ be 1 index ++ bytes.set i (BitVec.ofNat 8 b)

theorem test_meets_RecordOutOfRange :
    let bad : List (List Byte) := [changed 1 0 18 9 (unitRecord UnitCfg.delivered), changed 1 1 0 0 (unitRecord UnitCfg.delivered),
      changed 2 1 1 61 (spotBytes SpotCfg.delivered), changed 2 8 0 2 (spotBytes SpotCfg.delivered),
      changed 3 0 0 0 (productBytes ⟨true, 0, 4000, 0⟩), changed 3 9 0 0 (productBytes ⟨true, 0, 4000, 0⟩),
      changed 4 4 0 2 (vesselBytes ⟨true, 30⟩), changed 4 1 2 29 (vesselBytes ⟨true, 30⟩), changed 5 3 2 61 (compBytes ⟨5, 5, 5⟩),
      changed 6 0 0 0 (lineBytes LineCfg.delivered), changed 6 161 0 0 (lineBytes LineCfg.delivered),
      changed 6 160 0 157 (lineBytes LineCfg.delivered), changed 6 1 4 4 (lineBytes LineCfg.delivered),
      changed 7 16 1 0x25 (listBytes [⟨.la, .toOpen, true⟩]), [7, 1, 0], changed 7 9 0 17 (listBytes (List.replicate 17 ⟨.la, .toOpen, true⟩)),
      changed 8 2 0 248 (linkBytes ⟨1, .baud9600⟩), changed 8 1 1 5 (linkBytes ⟨1, .baud9600⟩),
      changed 9 21 0 0 (scaleBytes ⟨0, 1⟩), changed 9 8 3 0 (scaleBytes ⟨0, 1⟩), [9, 8, 0, 0, 0x03, 0xE9], [9, 20, 0, 0, 0x13, 0x89]]
    let good : List (List Byte) := [changed 1 0 18 8 (unitRecord UnitCfg.delivered), changed 2 8 1 60 (spotBytes SpotCfg.delivered),
      changed 3 8 0 1 (productBytes ⟨false, 0, 4000, 0⟩), changed 4 4 0 0 (vesselBytes ⟨true, 30⟩),
      changed 5 3 2 60 (compBytes ⟨5, 5, 5⟩), changed 6 160 4 3 (lineBytes LineCfg.delivered),
      changed 7 16 1 0x24 (listBytes [⟨.la, .toOpen, true⟩]), changed 8 2 0 247 (linkBytes ⟨1, .baud9600⟩),
      [9, 8, 0, 0, 0x03, 0xE8], [9, 20, 0, 0, 0x13, 0x88]]
    let code (b : List Byte) := (after (.configure .panel 7 b) authRig).replyCode .panel
    bad.all (fun b => configShape b && decide (code b = some .refusedField)) = true ∧
      good.all (fun b => decide (code b = some .done)) = true := by decide +kernel

theorem test_meets_ListOutOfRange :
    let body (list : Nat) (steps : List Byte) : List Byte := be 1 8 ++ be 1 list ++ be 1 steps.length ++ steps
    let code (b : List Byte) := (after (.listLoad .panel 7 b) authRig).replyCode .panel
    [body 0 [0x24], body 3 [0x24], body 1 [], body 2 [0x25], body 2 [0x20], body 1 (List.replicate 17 0x24)].all (fun b =>
        listShape b && decide (code b = some .refusedField) && decide (field b 0 1 = (7 : SpotId).val + 1)) = true ∧
      [body 1 [0x24], body 2 (List.replicate 16 0x21)].all (fun b => decide (code b = some .done)) = true := by decide +kernel

/-! ### More states that meet the statements: what an event sets off -/

theorem test_meets_RefusedAuthenticate :
    (Instr.authenticate .panel 7 (be 4 9)).request = some (.panel, 0x40, 7, be 4 9) ∧ rig.takes .panel = true ∧
      (after (.authenticate .panel 7 (be 4 9)) { rig with lockout := true }).replyCode .panel = some .refusedLocked ∧
      ¬((0x40 : Byte) = 0x40 ∧ ResultCode.refusedLocked = .refusedAuth) := by decide +kernel

/-- R153: a held condition trips the spot that enters LINING_UP, SPOT_ESD before the high level of its vessel. -/
theorem test_meets_HeldAtLineUp :
    let s := (rigAt .ordered .lineUp).modSpot 0 fun p => { p with proving := some 0 }
    let high := { s with lineCfg := s.lineCfg.modify 1 fun c => { c with function := some (.highLevel 0), activeLevel := .low } }
    let t (s : State) := after (.provingExpiry 0) s
    s.powered = true ∧ s.compOf 0 = none ∧ s.holdsStorage 0 = false ∧ s.inPending 0 = false ∧ high.destinationHigh 0 = true ∧
      [high, reads (.spot 0 .spotEsd) s, reads (.spot 0 .spotEsd) high].map (fun s =>
          ((t s).stateOf 0, ((t s).recordOf 0).bind fun r => r.tripCause)) =
        [(.tripped, some .vesselHigh), (.tripped, some .spotEsd), (.tripped, some .spotEsd)] ∧
      (t s).stateOf 0 = .liningUp := by decide +kernel

/-- R54, R60: a report covers the pending request of 10,001 kg, and the grant reaches its spot. -/
theorem test_meets_UllageWithRequests :
    let s := waitingRig 10001
    let t := after (.tankUllage .supervisory 7 (itemBody (0 : VesselId) ++ be 4 10001)) s
    s.takes .supervisory = true ∧ (s.vesselCfg.get 0).inService = true ∧ (s.vessels.get 0).requests ≠ [] ∧
      (s.react (.grantPass 0)).2 = [] ∧ (t.vessels.get 0).requests = [] ∧ (t.vessels.get 0).committed = 10001 := by
  decide +kernel

/-- R17, R104: the last VOID window before liquid-out; the compressor is kept with a recovery target and released without. -/
theorem test_meets_LiquidOut :
    let s := transferring.modSpot 0 fun p =>
      { p with driver := { p.driver with voidRun := (transferring.spotCfg.get 0).emptyCount - 1 } }
    let t (target : Option Nat) :=
      (withRecord (fun r => { r with order := { r.order with recoveryTarget := target } }) s).react
        (.windowToDriver 0 (result .void false 0))
    s.stateOf 0 = .transfer ∧ (s.spotCfg.get 0).emptyCount ≤ (s.spots.get 0).driver.voidRun + 1 ∧ (s.recordOf 0).isSome = true ∧
      (t none).2 = [.releaseStorage 0, .releaseCompressor 0 false, .overpressureTest 0] ∧
      (t (some 300)).2 = [.releaseStorage 0, .overpressureTest 0] ∧ ((t none).1.valve 0 .lh).command = .toClose := by
  decide +kernel

/-- R135, R141, R142: a bypass makes EARTH healthy and VAPOUR_IN_LINE inactive, and its end takes the reading of the line to
the spot. -/
theorem test_meets_BypassReadings :
    let vapour := reads (.spot 0 .vapourInLine) authRig
    let set (code : Nat) (s : State) := after (.bypassSet .panel 7 (itemBody (0 : SpotId) ++ be 1 code ++ be 2 1)) s
    let ready := { rigAt .ready .lineUp with bypasses := [⟨0, .earth, 0, .supervisory⟩] }
    authRig.reading (.spot 0 .earth) = false ∧ (set 1 authRig).reading (.spot 0 .earth) = true ∧
      (set 1 authRig).bypassOf 0 .earth ≠ none ∧ vapour.bypassOf 0 .vapourInLine = none ∧
      vapour.reading (.spot 0 .vapourInLine) = true ∧ (set 5 vapour).reading (.spot 0 .vapourInLine) = false ∧
      ready.powered = true ∧ (after (.bypassExpiry 0 .earth) ready).stateOf 0 = .tripped := by decide +kernel

/-- R114, R116, R119: VA of spot 1 closed or away from its CLOSE command, with a stroke, with none, with a fault; and of spot
2, out of service. -/
theorem test_meets_ProofChanges :
    let away := transferring
    let fault := away.modSpot 0 fun p => { p with valves := p.valves.modify 1 fun u => { u with fault := true } }
    let idle := rig.modSpot 1 fun p => { p with valves := p.valves.modify 1 fun u => { u with fault := true } }
    let shut (sp : SpotId) := reads (.spot sp (.closedProven .va))
    let t (sp : SpotId) (s : State) := ((s.react (.functionChanged (.spot sp (.closedProven .va)) true)).1.valve sp .va)
    (away.spotCfg.get 0).inService = true ∧ (idle.spotCfg.get 1).inService = false ∧ (away.valve 0 .va).stroke = none ∧
      t 0 away = ⟨.toClose, none, some 30000, false⟩ ∧ t 0 closingVa = closingVa.valve 0 .va ∧ t 0 fault = fault.valve 0 .va ∧
      [closingVa, fault].map (fun s => t 0 (shut 0 s)) = [⟨.toClose, none, none, false⟩, ⟨.toClose, none, none, false⟩] ∧
      t 1 idle = idle.valve 1 .va ∧ t 1 (shut 1 idle) = ⟨.toClose, none, none, false⟩ := by decide +kernel

/-- R60, R86, R150, R171: what the site trip and the trip of a spot set off. -/
theorem test_meets_TripsSetOff :
    let s := waitingRig 10000
    let t := s.react (.siteCause (.request .panel))
    let trip (s : State) := (s.react (.spotTrip 0 .permissive)).2
    s.siteTrip.active = false ∧ t.1.stateOf 0 = .tripped ∧ t.1.queue = [] ∧ (t.1.vessels.get 0).requests = [] ∧
      t.2 = [.grantPass 0, .grantPass 1, .grantPass 2, .grantPass 3, .serveTickets, .arbiter] ∧
      (transferring.stateOf 0).trippable = true ∧ trip transferring = [.arbiter, .grantPass 0] ∧
      trip { rigAt .closing .liquid with pendingOrder := [⟨0, true⟩] } = [.serveTickets] := by decide +kernel

end Sys2Proof.Tests
end

section
/-! PROOFS. The spot's order list (R10): what LIST CLEAR does to the line-up override, and the seat check before it. -/

namespace Sys2Proof.Machine

/-! ### A request taken from the seat holder (R24) -/

theorem State.holdsSeat_eq_true {s : State} {sp : SpotId} {l : Link} (h : (s.spots.get sp).seat = l) :
    s.holdsSeat sp l = true := decide_eq_true h

theorem State.holdsSeat_eq_false {s : State} {sp : SpotId} {l : Link} (h : (s.spots.get sp).seat ≠ l) :
    s.holdsSeat sp l = false := decide_eq_false h

/-- From the link without the seat, a request of the seat holder is refused. -/
theorem onSeatedSpot_itemBody_refused {l : Link} {sp : SpotId} {s : State} (h : s.holdsSeat sp l = false)
    (k : SpotId → State → Handled) : onSeatedSpot l (itemBody sp) k s = s.refuse .refusedSeat := by
  unfold onSeatedSpot withSeat
  rw [onSpot_itemBody, h]
  exact if_neg Bool.false_ne_true

/-! ### The override of an order (R10, R11) -/

/-- A spot with the line-up override taken out of its stored order, if it has one (R10). -/
def Spot.withoutOverride (p : Spot) : Spot :=
  { p with record := p.record.map fun r => { r with order := { r.order with lineUpOverride := none } } }

/-- With no override in the spot's record, the configured list is the one that runs. -/
theorem State.lineUpOf_of_no_override {s : State} {sp : SpotId}
    (h : (s.recordOf sp).bind (fun r => r.order.lineUpOverride) = none) :
    s.lineUpOf sp = (.lineUpConfigured, s.lineUp.get sp) := by
  unfold State.lineUpOf
  rw [h]

theorem Spot.withoutOverride_override (p : Spot) :
    p.withoutOverride.record.bind (fun r => r.order.lineUpOverride) = none := by
  unfold Spot.withoutOverride
  cases p.record <;> rfl

@[simp] theorem State.modSpot_withoutOverride_lineUpOf (s : State) (sp : SpotId) :
    (s.modSpot sp Spot.withoutOverride).lineUpOf sp = (.lineUpConfigured, s.lineUp.get sp) := by
  apply State.lineUpOf_of_no_override
  rw [State.modSpot_recordOf_same]
  exact Spot.withoutOverride_override _

/-- A reply does not change which line-up list runs. -/
@[simp] theorem State.reply_lineUpOf (s : State) (l : Link) (tag kind : Byte) (a : Answer) (sp : SpotId) :
    (s.reply l tag kind a).lineUpOf sp = s.lineUpOf sp := rfl

/-! ### LIST CLEAR (R10) -/

theorem State.listClear_ordered {s : State} {sp : SpotId} (h : s.stateOf sp = .ordered) :
    s.listClear sp = (s.modSpot sp Spot.withoutOverride).accept := if_pos h

theorem State.listClear_refused {s : State} {sp : SpotId} (h : s.stateOf sp ≠ .ordered) :
    s.listClear sp = s.refuse .refusedState := if_neg h

section
variable {s : State} {l : Link} {sp : SpotId}

/-- LIST CLEAR for a spot reaches the seat check, and the link replies with its answer. -/
theorem exec_listClear_taken (ht : s.takes l = true) (tag : Byte) {state : State} {a : Answer}
    (h : onSeatedSpot l (itemBody sp) State.listClear (s.taken l) = (state, a)) :
    exec (.listClear l tag (itemBody sp)) s = .next (state.reply l tag 0x11 a) := by
  have hexec : exec (.listClear l tag (itemBody sp)) s =
      .next (s.takeFrame l tag 0x11 (onSeatedSpot l (itemBody sp) State.listClear)) := rfl
  rw [hexec, State.takeFrame_taken ht, h]

theorem exec_listClear_ordered (ht : s.takes l = true) (tag : Byte) (seat : (s.spots.get sp).seat = l)
    (ordered : s.stateOf sp = .ordered) : exec (.listClear l tag (itemBody sp)) s =
      .next (((s.taken l).modSpot sp Spot.withoutOverride).replied l tag 0x11 .done) :=
  exec_listClear_taken ht tag <|
    (onSeatedSpot_itemBody (s := s.taken l) (State.holdsSeat_eq_true seat) _).trans (State.listClear_ordered ordered)

theorem exec_listClear_elsewhere (ht : s.takes l = true) (tag : Byte) (seat : (s.spots.get sp).seat = l)
    (other : s.stateOf sp ≠ .ordered) : exec (.listClear l tag (itemBody sp)) s =
      .next ((s.taken l).replied l tag 0x11 .refusedState) :=
  exec_listClear_taken ht tag <|
    (onSeatedSpot_itemBody (s := s.taken l) (State.holdsSeat_eq_true seat) _).trans (State.listClear_refused other)

theorem exec_listClear_otherLink (ht : s.takes l = true) (tag : Byte) (seat : (s.spots.get sp).seat ≠ l) :
    exec (.listClear l tag (itemBody sp)) s = .next ((s.taken l).replied l tag 0x11 .refusedSeat) :=
  exec_listClear_taken ht tag (onSeatedSpot_itemBody_refused (s := s.taken l) (State.holdsSeat_eq_false seat) _)

/-- Whatever LIST CLEAR answers, the configured lists stay, and after a DONE the configured line-up list is the one that
runs. -/
theorem exec_listClear_lists (ht : s.takes l = true) {tag : Byte} {t : State}
    (h : exec (.listClear l tag (itemBody sp)) s = .next t) :
    t.lineUp = s.lineUp ∧ t.closeDown = s.closeDown ∧
      ((s.spots.get sp).seat = l → s.stateOf sp = .ordered → t.lineUpOf sp = (.lineUpConfigured, s.lineUp.get sp)) := by
  by_cases seat : (s.spots.get sp).seat = l
  · by_cases ordered : s.stateOf sp = .ordered
    · cases (exec_listClear_ordered ht tag seat ordered).symm.trans h
      exact ⟨rfl, rfl, fun _ _ => by simp [State.replied]⟩
    · cases (exec_listClear_elsewhere ht tag seat ordered).symm.trans h
      exact ⟨rfl, rfl, fun _ hordered => absurd hordered ordered⟩
  · cases (exec_listClear_otherLink ht tag seat).symm.trans h
    exact ⟨rfl, rfl, fun hseat => absurd hseat seat⟩

end

/-- Settles O26: the seat check, then the state check of R10, each with its answer; the lists are read off the three cases. -/
theorem listClearRemovesTheOverride : Obligations.ListClearRemovesTheOverride := by
  unfold Obligations.ListClearRemovesTheOverride
  intro s l tag sp ht
  exact ⟨exec_listClear_ordered ht tag, exec_listClear_elsewhere ht tag, exec_listClear_otherLink ht tag,
    fun _ h => exec_listClear_lists ht h⟩

end Sys2Proof.Machine
end

section
/-! PROOFS. Metering: division to the nearest integer (R45, R138), the correction for temperature and its clamp (R45), and the
temperature a LIQUID window is corrected at (R43). -/

namespace Sys2Proof.Machine

/-! ### Division to the nearest integer, a tie away from zero (R45, R138) -/

theorem roundDiv_of_nonneg {num : Int} (h : 0 ≤ num) (den : Nat) :
    roundDiv num den = ((2 * num.natAbs + den) / (2 * den) : Nat) := if_neg (Int.not_lt.mpr h)

theorem roundDiv_of_neg {num : Int} (h : num < 0) (den : Nat) :
    roundDiv num den = -((2 * num.natAbs + den) / (2 * den) : Nat) := if_pos h

@[simp] theorem roundDiv_zero (den : Nat) : roundDiv 0 den = 0 := by
  have half : den / (2 * den) = 0 := Nat.div_eq_zero_iff.mpr (by omega)
  simp [roundDiv_of_nonneg le_rfl, half]

/-- The divisor's multiple by the quotient that `roundDiv` takes for a magnitude is the nearest one, and at a tie the greater. -/
theorem two_mul_rounded_bounds (n : Nat) {den : Nat} (hden : 0 < den) :
    2 * n < 2 * (den * ((2 * n + den) / (2 * den))) + den ∧
      2 * (den * ((2 * n + den) / (2 * den))) ≤ 2 * n + den := by
  have below := Nat.mul_div_le (2 * n + den) (2 * den)
  have above := Nat.lt_mul_div_succ (2 * n + den) (Nat.mul_pos two_pos hden)
  rw [mul_assoc] at below above
  rw [Nat.mul_add, mul_one] at above
  omega

/-- The error of `roundDiv` reaches half a divisor on the side away from zero alone. -/
theorem roundDiv_error (num : Int) {den : Nat} (hden : 0 < den) :
    (0 ≤ num → -(den : Int) < 2 * (den * roundDiv num den - num) ∧ 2 * (den * roundDiv num den - num) ≤ den) ∧
      (num < 0 → -(den : Int) ≤ 2 * (den * roundDiv num den - num) ∧ 2 * (den * roundDiv num den - num) < den) := by
  have bounds := two_mul_rounded_bounds num.natAbs hden
  constructor
  · intro h
    rw [roundDiv_of_nonneg h, ← Nat.cast_mul]
    omega
  · intro h
    rw [roundDiv_of_neg h, mul_neg, ← Nat.cast_mul]
    omega

theorem roundDiv_nearest (num : Int) {den : Nat} (hden : 0 < den) :
    2 * (den * roundDiv num den - num).natAbs ≤ den := by
  have error := roundDiv_error num hden
  omega

/-- At a tie the error has the sign of the number that is divided. -/
theorem roundDiv_tie {num : Int} {den : Nat} (hden : 0 < den)
    (tie : 2 * (den * roundDiv num den - num).natAbs = den) : 0 < num * (den * roundDiv num den - num) := by
  have error := roundDiv_error num hden
  obtain neg | rfl | pos := lt_trichotomy num 0
  · exact mul_pos_of_neg_of_neg neg (by omega)
  · simp at tie
    omega
  · exact mul_pos pos (by omega)

/-! ### The correction for temperature (R45) -/

/-- CTL, as an integer: a million less the rounded quotient, clamped to 800,000 to 1,200,000. -/
theorem ctl_eq_clamp (alpha : Nat) (t : Int) :
    (ctl alpha t : Int) = max 800000 (min 1200000 (1000000 - roundDiv (alpha * (t - 150)) 10)) := by
  unfold ctl
  dsimp only
  split
  · omega
  · split <;> omega

theorem ctl_bounds (alpha : Nat) (t : Int) : 800000 ≤ ctl alpha t ∧ ctl alpha t ≤ 1200000 := by
  have clamp := ctl_eq_clamp alpha t
  omega

/-- Where the coefficient or the distance from 15.0 °C is 0, nothing is corrected. -/
theorem ctl_of_product_zero {alpha : Nat} {t : Int} (h : (alpha : Int) * (t - 150) = 0) : ctl alpha t = 1000000 := by
  have clamp := ctl_eq_clamp alpha t
  rw [h, roundDiv_zero] at clamp
  omega

/-! ### The temperature of a LIQUID window (R41, R43) -/

theorem clampTemperature_bounds (t : Int) : -500 ≤ clampTemperature t ∧ clampTemperature t ≤ 600 := by
  unfold clampTemperature
  split
  · omega
  · split <;> omega

/-- A window with no vapour seen is LIQUID (R41). -/
theorem convertWindow_of_liquid {m : Meter} (h : m.vapourSeen = false) (cfg : SpotCfg) (product : ProductCfg)
    (reading : Option Int) (free : Int) (r : Record) :
    convertWindow cfg product reading free r m =
      liquidWindow cfg product reading free r m m.count ((m.count * 1000000 + r.rawRemainder) / cfg.kFactor)
        ((m.count * 1000000 + r.rawRemainder) % cfg.kFactor) (flowAfter cfg m.count m.flow) :=
  if_neg (ne_true_of_eq_false h)

/-- A LIQUID window is corrected at its clamped temperature; the record's clamp note is of that temperature alone, and a clamp
of CTL leaves no note. -/
theorem liquidWindow_correction (cfg : SpotCfg) (product : ProductCfg) (reading : Option Int) (free : Int) (r : Record)
    (m : Meter) (n gross rawRem : Nat) (flow : Bool) :
    let source := windowTemperature m.hold reading product.fallback free
    let window := liquidWindow cfg product reading free r m n gross rawRem flow
    window.meter.lastLiquid =
        some ⟨clampTemperature source.1, source.2, ctl product.alpha (clampTemperature source.1)⟩ ∧
      window.record.tempClamped = (r.tempClamped || decide (clampTemperature source.1 ≠ source.1)) :=
  ⟨rfl, rfl⟩

/-- Settles O51: the quotient is that of `roundDiv`, nearest with its ties away from zero, and `ctl` clamps a million less
it. -/
theorem ctlRoundsToTheNearestAndClamps : Obligations.CtlRoundsToTheNearestAndClamps := by
  unfold Obligations.CtlRoundsToTheNearestAndClamps
  refine ⟨fun alpha T => ?rounded, ctl_bounds, by decide, fun alpha => ctl_of_product_zero (mul_zero _),
    fun T => ctl_of_product_zero (zero_mul _), fun cfg product reading free r m liquid => ?window⟩
  case rounded =>
    have clamp := ctl_eq_clamp alpha T
    exact ⟨roundDiv (alpha * (T - 150)) 10, roundDiv_nearest _ (by decide), roundDiv_tie (by decide),
      by omega, by omega, by omega⟩
  case window =>
    obtain ⟨low, high⟩ := clampTemperature_bounds (windowTemperature m.hold reading product.fallback free).1
    rw [convertWindow_of_liquid liquid]
    exact ⟨_, _, low, high, liquidWindow_correction ..⟩

end Sys2Proof.Machine
end

section
/-! PROOFS. The end of a compressor's fault (R82): what COMPRESSOR RESET does to the compressor, what the arbiter finds
afterwards, and the two refusals. -/

namespace Sys2Proof.Machine

/-! ### A body of one number (R178, R188) -/

/-- The one field of a body is read back as the number it was written with. -/
theorem field_be {w n : Nat} (h : n < 256 ^ w) : field (be w n) 0 w = n := by
  have whole : (be w n).take w = be w n := List.take_of_length_le (be_length w n).le
  unfold field
  rw [List.drop_zero, whole, beNat_be w n h]

theorem withNumber_of_some {n code : Nat} {i : Fin n} (h : oneBased n code = some i) (k : Fin n → State → Handled)
    (s : State) : withNumber code k s = k i s := by
  unfold withNumber
  rw [h]

theorem withNumber_of_none {n code : Nat} (h : oneBased n code = none) (k : Fin n → State → Handled) (s : State) :
    withNumber code k s = s.refuse .refusedField := by
  unfold withNumber
  rw [h]

/-! ### The arbiter with nothing to grant, and a grant to a motor that turns (R75 to R77, R86) -/

/-- With the site trip active, or with nobody waiting, the arbiter alone leaves the state as it is. -/
theorem State.settled_arbiter_idle {s : State} (h : s.siteTrip.active = true ∨ s.queue = []) :
    Reacted.settled (s, [.arbiter]) = s :=
  have nothing : s.react .arbiter = (s, []) := h.elim State.react_arbiter_tripped State.react_arbiter_empty
  (Drains.idle nothing (Drains.nil 0 s)).settled (by decide)

/-- A compressor at the granted position whose motor turns runs at once, whatever state the grant finds it in. -/
theorem Comp.grant_at_position_running_state (cfg : CompCfg) (proven : Option Direction) (sp : SpotId) {d : Direction}
    {c : Comp} (there : c.position = d) : (c.grant cfg true proven sp d).state = d.runState := by
  unfold Comp.grant Comp.enterStarting
  rw [if_pos there, if_pos rfl]
  rfl

/-! ### COMPRESSOR RESET (R82) -/

theorem State.compressorReset_fault {s : State} {c : CompId} (fault : (s.comps.get c).state = .fault)
    (clear : s.reading (.comp c .fault) = false) :
    s.compressorReset c = (Reacted.settled (s.modComp c Comp.enterIdle, [.arbiter])).accept := if_pos ⟨fault, clear⟩

theorem State.compressorReset_refused {s : State} {c : CompId}
    (h : (s.comps.get c).state ≠ .fault ∨ s.reading (.comp c .fault) = true) :
    s.compressorReset c = s.refuse .refusedState :=
  if_neg fun ⟨fault, clear⟩ => h.elim (absurd fault) (absurd · (ne_true_of_eq_false clear))

/-- What the arbiter decides by is not touched by the reset of a compressor: with the site trip active, or with nobody
waiting, the compressor is in IDLE and nothing more happens. -/
theorem State.compressorReset_fault_idle {s : State} {c : CompId} (fault : (s.comps.get c).state = .fault)
    (clear : s.reading (.comp c .fault) = false) (idle : s.siteTrip.active = true ∨ s.queue = []) :
    s.compressorReset c = (s.modComp c Comp.enterIdle).accept := by
  rw [State.compressorReset_fault fault clear, State.settled_arbiter_idle (s := s.modComp c Comp.enterIdle) idle]

section
variable {s : State} {l : Link} {n : Nat}

/-- COMPRESSOR RESET reaches the check of its number, and the link replies with the answer. -/
theorem exec_compressorReset_taken (ht : s.takes l = true) (hn : n < 256) (tag : Byte) {state : State} {a : Answer}
    (h : withNumber n State.compressorReset (s.taken l) = (state, a)) :
    exec (.compressorReset l tag (be 1 n)) s = .next (state.reply l tag 0x1C a) := by
  have hexec : exec (.compressorReset l tag (be 1 n)) s =
      .next (s.takeFrame l tag 0x1C (withLength 1 (be 1 n) (withNumber (field (be 1 n) 0 1) State.compressorReset))) := rfl
  rw [hexec, State.takeFrame_taken ht, withLength_eq (be_length 1 n), field_be (w := 1) hn, h]

theorem exec_compressorReset_noNumber (ht : s.takes l = true) (hn : n < 256) (tag : Byte) (hc : oneBased 3 n = none) :
    exec (.compressorReset l tag (be 1 n)) s = .next ((s.taken l).replied l tag 0x1C .refusedField) :=
  exec_compressorReset_taken ht hn tag (withNumber_of_none hc _ _)

/-- With one of the numbers 1 to 3, the link replies with what the compressor's own checks answer. -/
theorem exec_compressorReset_number (ht : s.takes l = true) (hn : n < 256) (tag : Byte) {c : CompId}
    (hc : oneBased 3 n = some c) {state : State} {a : Answer} (h : (s.taken l).compressorReset c = (state, a)) :
    exec (.compressorReset l tag (be 1 n)) s = .next (state.reply l tag 0x1C a) :=
  exec_compressorReset_taken ht hn tag ((withNumber_of_some hc _ _).trans h)

end

/-- Settles O36: the check of the number, then the two outcomes of R82, each read off the state in which the owner finds the
controller: the link's receiver is none of what the compressor's checks and the arbiter look at. -/
theorem compressorResetEndsAFault : Obligations.CompressorResetEndsAFault := by
  unfold Obligations.CompressorResetEndsAFault
  intro s l tag n ht hn
  refine ⟨exec_compressorReset_noNumber ht hn tag, fun c hc => ⟨?idle, ?nothingGranted, ?refused, ?runs⟩⟩
  case idle =>
    intro fault clear
    exact exec_compressorReset_number ht hn tag hc (State.compressorReset_fault (s := s.taken l) fault clear)
  case nothingGranted =>
    intro fault clear idle
    exact exec_compressorReset_number ht hn tag hc (State.compressorReset_fault_idle (s := s.taken l) fault clear idle)
  case refused =>
    intro h
    exact exec_compressorReset_number ht hn tag hc (State.compressorReset_refused (s := s.taken l) h)
  case runs =>
    intro cfg proven sp d x there
    exact Comp.grant_at_position_running_state cfg proven sp there

end Sys2Proof.Machine
end

section
/-! PROOFS. The dwell (section 5.2): what its expiry decides and writes (R96, R98), what its half does, and the setpoint of a
compressor that runs for the spot (R95). -/

namespace Sys2Proof.Machine

/-! ### Latching one spot kind (R182) -/

theorem bitWord_bit_ne_zero (k : SpotLatch) : bitWord k.bit ≠ 0 := by cases k <;> decide

/-- A spot kind latched for a spot is found latched for it. -/
theorem State.spotLatched_latchSpot (s : State) (sp : SpotId) (k : SpotLatch) :
    (s.latchSpot sp k).spotLatched sp k = true := by
  have word : (s.latchSpot sp k).latches.spot.get sp = s.latches.spot.get sp ||| bitWord k.bit :=
    Bank.get_modify_same _ _ _
  have absorbed : (s.latches.spot.get sp ||| bitWord k.bit) &&& bitWord k.bit = bitWord k.bit := by
    ext i hi
    simpa using Or.inr
  unfold State.spotLatched
  rw [word, absorbed]
  exact bne_iff_ne.mpr (bitWord_bit_ne_zero k)

/-- Latching, where due, changes nothing but the latches. -/
theorem State.latchSpotIf_eq (s : State) (b : Bool) (sp : SpotId) (k : SpotLatch) :
    s.latchSpotIf b sp k = { s with latches := (s.latchSpotIf b sp k).latches } := by
  unfold State.latchSpotIf
  split <;> rfl

/-! ### The setpoint of a compressor in RUN_PUSH (R74, R95) -/

theorem State.setpoint_runPush {s : State} {c : CompId} {sp : SpotId} {d : Direction}
    (run : (s.comps.get c).state = .runPush) (holder : (s.comps.get c).assigned = some (sp, d)) :
    s.setpoint c = some (s.ladderValue (s.spots.get sp).driver.step) := by
  unfold State.setpoint
  rw [run, holder]

/-! ### The decision of a dwell (R98) -/

section
variable (cfg : SpotCfg) (d : Driver)

/-- The dwell has carried less than its yield target (R98). -/
def Driver.short : Bool := decide (d.dwellMass < cfg.yieldTarget)

theorem Driver.short_iff : d.short cfg = true ↔ d.dwellMass < cfg.yieldTarget := decide_eq_true_iff

theorem dwellDecision_of_slips (slipped : cfg.slipThreshold < d.slips) :
    dwellDecision cfg d = (max cfg.floorStep (d.step - 1), false) := if_pos slipped

theorem dwellDecision_of_yield (clean : ¬cfg.slipThreshold < d.slips) (full : ¬d.short cfg = true) :
    dwellDecision cfg d = (d.step, false) :=
  (if_neg clean).trans (if_neg (full ∘ (d.short_iff cfg).mpr))

theorem dwellDecision_of_short (clean : ¬cfg.slipThreshold < d.slips) (short : d.short cfg = true) :
    dwellDecision cfg d = if d.step < 8 then (d.step + 1, false) else (d.step, !d.lowYield) :=
  (if_neg clean).trans (if_pos ((d.short_iff cfg).mp short))

theorem dwellDecision_step :
    (dwellDecision cfg d).1 =
      if cfg.slipThreshold < d.slips then max cfg.floorStep (d.step - 1)
      else if d.short cfg = true ∧ d.step < 8 then d.step + 1 else d.step := by
  by_cases slipped : cfg.slipThreshold < d.slips
  · rw [dwellDecision_of_slips cfg d slipped, if_pos slipped]
  · rw [if_neg slipped]
    by_cases short : d.short cfg = true
    · rw [dwellDecision_of_short cfg d slipped short]
      by_cases room : d.step < 8 <;> simp [short, room]
    · rw [dwellDecision_of_yield cfg d slipped short, if_neg fun ⟨h, _⟩ => short h]

/-- LOW_YIELD is latched by a dwell without slips that is short at step 8, unless its record has had it already. -/
theorem dwellDecision_latches_iff :
    (dwellDecision cfg d).2 = true ↔
      ¬cfg.slipThreshold < d.slips ∧ d.short cfg = true ∧ 8 ≤ d.step ∧ d.lowYield = false := by
  by_cases slipped : cfg.slipThreshold < d.slips
  · simp [dwellDecision_of_slips cfg d slipped, slipped]
  · by_cases short : d.short cfg = true
    · rw [dwellDecision_of_short cfg d slipped short]
      by_cases room : d.step < 8
      · simp [room]
      · simp [slipped, short, room, Nat.le_of_not_lt room]
    · simp [dwellDecision_of_yield cfg d slipped short, short]

/-- The LOW_YIELD indication after the decision: as before, or set by a short dwell at step 8. -/
theorem dwellDecision_lowYield :
    (d.lowYield || (dwellDecision cfg d).2) =
      (d.lowYield || (!decide (cfg.slipThreshold < d.slips) && d.short cfg && decide (8 ≤ d.step))) := by
  rw [Bool.eq_iff_iff]
  simp only [Bool.or_eq_true, dwellDecision_latches_iff]
  cases d.lowYield <;> simp [and_assoc]

/-- The driver once its dwell has expired: the step decided, and the next dwell begun (R96, R98). -/
def Driver.afterDwell : Driver :=
  Driver.startDwell cfg.dwell
    { d with step := (dwellDecision cfg d).1, lowYield := d.lowYield || (dwellDecision cfg d).2 }

theorem Driver.afterDwell_eq :
    d.afterDwell cfg =
      { d with
        step := if cfg.slipThreshold < d.slips then max cfg.floorStep (d.step - 1)
          else if d.short cfg = true ∧ d.step < 8 then d.step + 1 else d.step
        lowYield := d.lowYield || (!decide (cfg.slipThreshold < d.slips) && d.short cfg && decide (8 ≤ d.step))
        dwell := some (seconds cfg.dwell), secondHalf := false, dwellMass := 0, slips := 0 } := by
  rw [← dwellDecision_step, ← dwellDecision_lowYield]
  rfl

end

/-! ### What an expiry writes (R96, R98) -/

section
variable (s : State) (sp : SpotId)

/-- Only the spots and the latches change. -/
theorem State.dwellOver_eq :
    s.dwellOver sp = { s with spots := (s.dwellOver sp).spots, latches := (s.dwellOver sp).latches } := by
  unfold State.dwellOver
  dsimp only
  rw [State.modSpot_eq, State.latchSpotIf_eq, State.modSpot_eq]

theorem State.dwellOver_driver :
    ((s.dwellOver sp).spots.get sp).driver = (s.spots.get sp).driver.afterDwell (s.spotCfg.get sp) := by
  unfold State.dwellOver
  dsimp only
  rw [State.modSpot_same, State.latchSpotIf_spots, State.modSpot_same]
  rfl

theorem State.dwellOver_other {q : SpotId} (h : q ≠ sp) : (s.dwellOver sp).spots.get q = s.spots.get q := by
  unfold State.dwellOver
  dsimp only
  rw [State.modSpot_other _ _ h, State.latchSpotIf_spots, State.modSpot_other _ _ h]

end

section
variable {s : State} {sp : SpotId}

theorem State.dwellOver_latches_kept (h : ¬(dwellDecision (s.spotCfg.get sp) (s.spots.get sp).driver).2 = true) :
    (s.dwellOver sp).latches = s.latches := by
  unfold State.dwellOver State.latchSpotIf
  dsimp only
  rw [if_neg h]
  rfl

theorem State.dwellOver_latched (h : (dwellDecision (s.spotCfg.get sp) (s.spots.get sp).driver).2 = true) :
    (s.dwellOver sp).spotLatched sp .lowYield = true := by
  unfold State.dwellOver State.latchSpotIf
  dsimp only
  rw [if_pos h]
  exact State.spotLatched_latchSpot _ sp .lowYield

theorem exec_halfDwell_at {n : Nat} (powered : s.powered = true) (runs : (s.spots.get sp).driver.dwell = some n)
    (half : 2 * n ≤ seconds (s.spotCfg.get sp).dwell) :
    exec (.halfDwell sp) s = .next (s.modSpot sp (Spot.modDriver fun d => { d with secondHalf := true })) := by
  have reached := (Driver.halfDone_iff (s.spotCfg.get sp) (s.spots.get sp).driver).mpr ⟨n, runs, half⟩
  have hexec : exec (.halfDwell sp) s = execHalfDwell sp s := rfl
  rw [hexec, execHalfDwell, State.ifPowered, if_pos powered, if_pos reached]

theorem exec_dwellExpiry_due (powered : s.powered = true) (due : (s.spots.get sp).driver.dwell = some 0) :
    exec (.dwellExpiry sp) s = .next (s.dwellOver sp) := by
  have hexec : exec (.dwellExpiry sp) s = execDwellExpiry sp s := rfl
  rw [hexec, execDwellExpiry, State.ifPowered, if_pos powered, if_pos ((timerDue_iff _).mpr due)]

end

/-- Settles O57: a timer that has run out leaves the driver as `Driver.afterDwell`, LOW_YIELD is latched just where
`dwellDecision_latches_iff` says, and a setpoint in RUN_PUSH is read from the step of the driver after. -/
theorem dwellExpiryDecidesTheStep : Obligations.DwellExpiryDecidesTheStep := by
  unfold Obligations.DwellExpiryDecidesTheStep
  intro s sp powered
  refine ⟨fun n => exec_halfDwell_at powered, fun due => ⟨s.dwellOver sp, exec_dwellExpiry_due powered due,
    s.dwellOver_eq sp, fun q => s.dwellOver_other sp, ⟨?driver, ?kept, ?latched⟩, ?setpoint⟩⟩
  case driver => exact (s.dwellOver_driver sp).trans (Driver.afterDwell_eq _ _)
  case kept =>
    intro reason
    refine State.dwellOver_latches_kept fun latches => ?_
    obtain ⟨clean, short, top, first⟩ := (dwellDecision_latches_iff _ _).mp latches
    rcases reason with slipped | full | room | again
    · exact clean slipped
    · exact ne_true_of_eq_false full short
    · exact Nat.not_lt.mpr top room
    · exact ne_true_of_eq_false first again
  case latched =>
    intro clean short top first
    exact State.dwellOver_latched ((dwellDecision_latches_iff _ _).mpr ⟨clean, short, top, first⟩)
  case setpoint =>
    intro c d run holder
    rw [State.dwellOver_eq]
    exact State.setpoint_runPush run holder

end Sys2Proof.Machine
end

section
/-! PROOFS. The ticket at the head of the queue (R168): the checks of RELEASE TICKET in their order, and the pending order, which
is served before the reply (R170). -/

namespace Sys2Proof.Machine

/-! ### A range, and a request of the supervisory link (R178) -/

theorem within_iff {lo hi n : Nat} : within lo hi n = true ↔ lo ≤ n ∧ n ≤ hi := by
  unfold within
  rw [Bool.and_eq_true, decide_eq_true_iff, decide_eq_true_iff]

theorem withSupervisory_supervisory (k : State → Handled) (s : State) : withSupervisory .supervisory k s = k s := if_pos rfl

theorem withSupervisory_panel (k : State → Handled) (s : State) : withSupervisory .panel k s = s.refuse .refusedSeat :=
  if_neg Link.noConfusion

/-! ### The pending order with nothing in it (R170) -/

theorem State.react_serveTickets_empty {s : State} (h : s.pendingOrder = []) : s.react .serveTickets = (s, []) := by
  have nobody : s.placeable = none := by
    unfold State.placeable
    rw [h]
  change s.reactServe = (s, [])
  unfold State.reactServe
  rw [nobody]

/-- With nothing in the pending order, serving it leaves the state as it is. -/
theorem State.settled_serveTickets_idle {s : State} (h : s.pendingOrder = []) : Reacted.settled (s, [.serveTickets]) = s :=
  (Drains.idle (State.react_serveTickets_empty h) (Drains.nil 0 s)).settled (by decide)

/-! ### RELEASE TICKET (R168) -/

section
variable {s : State} {n : Nat}

/-- The numbers a ticket can have, as R168 gives them. -/
theorem ticketNumber_within (range : 1 ≤ n ∧ n ≤ 999999) : within 1 Config.ticketNumberMax n = true := within_iff.mpr range

theorem State.releaseTicket_outOfRange (h : ¬(1 ≤ n ∧ n ≤ 999999)) : s.releaseTicket n = s.refuse .refusedField :=
  if_neg (mt within_iff.mp h)

theorem State.releaseTicket_empty (range : 1 ≤ n ∧ n ≤ 999999) (empty : s.tickets = []) :
    s.releaseTicket n = s.refuse .refusedEmpty := by
  unfold State.releaseTicket
  rw [if_pos (ticketNumber_within range), empty]

variable {x : Ticket} {rest : List Ticket}

/-- With a ticket at the head and a number in range, what is left to check is the number of that ticket. -/
theorem State.releaseTicket_head (range : 1 ≤ n ∧ n ≤ 999999) (head : s.tickets = x :: rest) :
    s.releaseTicket n = if x.number = n then (Reacted.settled ({ s with tickets := rest }, [.serveTickets])).accept
      else s.refuse .refusedMismatch := by
  unfold State.releaseTicket
  rw [if_pos (ticketNumber_within range), head]

theorem State.releaseTicket_mismatch (range : 1 ≤ n ∧ n ≤ 999999) (head : s.tickets = x :: rest) (other : x.number ≠ n) :
    s.releaseTicket n = s.refuse .refusedMismatch := (State.releaseTicket_head range head).trans (if_neg other)

theorem State.releaseTicket_match (range : 1 ≤ n ∧ n ≤ 999999) (head : s.tickets = x :: rest) (same : x.number = n) :
    s.releaseTicket n = (Reacted.settled ({ s with tickets := rest }, [.serveTickets])).accept :=
  (State.releaseTicket_head range head).trans (if_pos same)

/-- The ticket's removal puts nothing in the pending order: where that is empty, the removal is all. -/
theorem State.releaseTicket_match_idle (range : 1 ≤ n ∧ n ≤ 999999) (head : s.tickets = x :: rest) (same : x.number = n)
    (idle : s.pendingOrder = []) : s.releaseTicket n = ({ s with tickets := rest } : State).accept := by
  rw [State.releaseTicket_match range head same, State.settled_serveTickets_idle (s := { s with tickets := rest }) idle]

/-- RELEASE TICKET reaches the check of its link, and the link replies with the answer. -/
theorem exec_releaseTicket_taken {l : Link} (ht : s.takes l = true) (hn : n < 4294967296) (tag : Byte) {state : State}
    {a : Answer} (h : withSupervisory l (State.releaseTicket n) (s.taken l) = (state, a)) :
    exec (.releaseTicket l tag (be 4 n)) s = .next (state.reply l tag 0x1E a) := by
  have hexec : exec (.releaseTicket l tag (be 4 n)) s =
      .next (s.takeFrame l tag 0x1E (withLength 4 (be 4 n) (withSupervisory l (State.releaseTicket (field (be 4 n) 0 4))))) :=
    rfl
  rw [hexec, State.takeFrame_taken ht, withLength_eq (be_length 4 n), field_be (w := 4) hn, h]

theorem exec_releaseTicket_panel (ht : s.takes .panel = true) (hn : n < 4294967296) (tag : Byte) :
    exec (.releaseTicket .panel tag (be 4 n)) s = .next ((s.taken .panel).replied .panel tag 0x1E .refusedSeat) :=
  exec_releaseTicket_taken ht hn tag (withSupervisory_panel _ _)

/-- From the supervisory link, the link replies with what the checks of the ticket store answer. -/
theorem exec_releaseTicket_supervisory (ht : s.takes .supervisory = true) (hn : n < 4294967296) (tag : Byte) {state : State}
    {a : Answer} (h : (s.taken .supervisory).releaseTicket n = (state, a)) :
    exec (.releaseTicket .supervisory tag (be 4 n)) s = .next (state.reply .supervisory tag 0x1E a) :=
  exec_releaseTicket_taken ht hn tag ((withSupervisory_supervisory _ _).trans h)

end

/-- Settles O39: the check of the link, then the checks of R168 in their order, each read off the state in which the owner finds
the controller: the link's receiver is neither in the ticket queue nor in the pending order. -/
theorem releaseTicketRemovesTheHead : Obligations.ReleaseTicketRemovesTheHead := by
  unfold Obligations.ReleaseTicketRemovesTheHead
  intro s tag n hn
  refine ⟨fun panel => exec_releaseTicket_panel panel hn tag, fun ht => ⟨?field, ?empty, fun x rest head low high =>
    ⟨?mismatch, ?head, ?nothingPending⟩⟩⟩
  case field =>
    intro outside
    exact exec_releaseTicket_supervisory ht hn tag (State.releaseTicket_outOfRange (by omega))
  case empty =>
    intro low high empty
    exact exec_releaseTicket_supervisory ht hn tag (State.releaseTicket_empty (s := s.taken .supervisory) ⟨low, high⟩ empty)
  case mismatch =>
    intro other
    exact exec_releaseTicket_supervisory ht hn tag
      (State.releaseTicket_mismatch (s := s.taken .supervisory) ⟨low, high⟩ head other)
  case head =>
    intro same
    exact exec_releaseTicket_supervisory ht hn tag
      (State.releaseTicket_match (s := s.taken .supervisory) ⟨low, high⟩ head same)
  case nothingPending =>
    intro same idle
    exact exec_releaseTicket_supervisory ht hn tag
      (State.releaseTicket_match_idle (s := s.taken .supervisory) ⟨low, high⟩ head same idle)

end Sys2Proof.Machine
end
